-- ==== Sys2Proof/Word.lean ====
section
/-! DEFINITION. The bit widths of the block: a byte (00_scope.md R8), a command-port word (30_encoding.md R80)
and a millisecond time (10_state.md R40). -/

namespace Sys2Proof

/-- An unsigned 8-bit value, bit 7 the most significant (00_scope.md R8). -/
abbrev Byte := BitVec 8

/-- A 16-bit command word: `op` in bits 15..8, `arg` in bits 7..0 (30_encoding.md R80). -/
abbrev Word := BitVec 16

/-- A TIME_BITS = 32-bit millisecond time (00_scope.md R6, 10_state.md R40). -/
abbrev Time := BitVec 32

end Sys2Proof
end

