-- ==== Sys2Proof/Config.lean ====
section
/-! DEFINITION. The enumerations of 00_scope.md R11, the parameters of 00_scope.md R6 (the values the source states
as constants, the OPEN ones as the fields of `Config`), the one free value of the model, and EXCFG, the example
configuration of 95_test_vectors.md. -/

namespace Sys2Proof

/-! ### Enumerations (00_scope.md R11) -/

/-- The externally visible mode (10_state.md R23). -/
inductive Mode where
  | off | auto | cool | heat | dry | fanOnly
deriving DecidableEq, Repr

/-- A Mode other than Off: what `last_mode` holds and what MODE_CODE is defined on (10_state.md R32,
30_encoding.md R94). -/
inductive OnMode where
  | auto | cool | heat | dry | fanOnly
deriving DecidableEq, Repr

/-- The eight fan speeds (10_state.md R26). -/
inductive Fan where
  | auto | quiet | low | medLow | med | medHigh | high | turbo
deriving DecidableEq, Repr

/-- The externally visible display mode (10_state.md R29). -/
inductive Disp where
  | off | auto | setTemp | actualTemp | outsideTemp
deriving DecidableEq, Repr

/-- A Disp other than Off: what `last_display_mode` holds and what DISP_CODE is defined on (10_state.md R33,
30_encoding.md R94). -/
inductive OnDisp where
  | auto | setTemp | actualTemp | outsideTemp
deriving DecidableEq, Repr

/-- The display unit (10_state.md R30). -/
inductive TempUnit where
  | celsius | fahrenheit
deriving DecidableEq, Repr

/-- An element of VSWING_SET or HSWING_SET: Off, FullSwing, or one of the unit's constant positions, by its name
(10_state.md R27, R28; 00_scope.md R7; DESIGN CHOICE: a position is known by its name, log entry 10). -/
inductive SwingPos where
  | off
  | fullSwing
  | named (name : String)
deriving DecidableEq, Repr

/-- The two readings of the LEN byte (30_encoding.md R88, 90_conflicts.md C1). -/
inductive LenConv where
  | afterLen | total
deriving DecidableEq, Repr

/-- The seventeen fields of a body, in the order of their ids 0..16 (30_encoding.md R90). -/
inductive BodyField where
  | power | mode | tempSet | tempCur | fanA | fanB | quiet | turbo | vswing | hswing | dispPower | dispMode
  | dispUnit | plasma | sleep | xfan | save
deriving DecidableEq, Repr

/-! ### Parameters the source states (00_scope.md R6, marked "source"; U1: taken as normative, log entry 16) -/

/-- SYNC, the synchronisation byte. -/
def sync : Byte := 0x7E

/-- RX_CAP, the size of the receive buffer (decision D4). -/
def rxCap : Nat := 258

/-- MIN_FRAME, the shortest frame the validator lets pass (41_validator.md R152). -/
def minFrame : Nat := 5

/-- ALLOW, the accepted inbound command bytes (41_validator.md R153). -/
def allow : List Byte := [0x31]

/-- CMD_SET, the command byte of a parameter-set frame. -/
def cmdSet : Byte := 0x01

/-- TX_BODY_LEN, the length of a parameter-set body. -/
def txBodyLen : Nat := 45

/-- TX_FRAME_LEN = 2 + 1 + 1 + 45 + 1 (43_encoder.md R222). -/
def txFrameLen : Nat := 50

/-- APPLY_MARK, the apply-now marker (43_encoder.md R212). -/
def applyMark : Byte := 0xAF

/-- TEMP_MIN, in degrees. -/
def tempMin : Nat := 16

/-- TEMP_MAX, in degrees. -/
def tempMax : Nat := 30

/-- TEMP_OFFSET, subtracted by the encoder and added by the decoder (30_encoding.md R96). -/
def tempOffset : Nat := 16

/-- TEMP_SANITY, the threshold a decoded temperature may not exceed (42_decoder.md R176). -/
def tempSanity : Nat := 100

/-- T_INACT, the inactivity timeout in milliseconds (44_sequencer.md R242). -/
def tInact : Nat := 1000

/-! ### OPEN parameters (00_scope.md R6) -/

/-- One descriptor (index, mask, shift) of FIELD_TABLE (30_encoding.md R90, R91). -/
structure FieldDesc where
  idx : Nat
  mask : Byte
  shift : Nat
deriving DecidableEq, Repr

/-- FIELD_TABLE: one descriptor per field of 30_encoding.md R90. -/
structure FieldTable where
  power : FieldDesc
  mode : FieldDesc
  tempSet : FieldDesc
  tempCur : FieldDesc
  fanA : FieldDesc
  fanB : FieldDesc
  quiet : FieldDesc
  turbo : FieldDesc
  vswing : FieldDesc
  hswing : FieldDesc
  dispPower : FieldDesc
  dispMode : FieldDesc
  dispUnit : FieldDesc
  plasma : FieldDesc
  sleep : FieldDesc
  xfan : FieldDesc
  save : FieldDesc
deriving DecidableEq, Repr

/-- MODE_CODE (30_encoding.md R94): Off has no code. -/
structure ModeCodes where
  auto : Nat
  cool : Nat
  heat : Nat
  dry : Nat
  fanOnly : Nat
deriving DecidableEq, Repr

/-- One row (a, b, quiet, turbo) of FAN_TABLE (30_encoding.md R95). -/
structure FanRow where
  a : Nat
  b : Nat
  quiet : Bool
  turbo : Bool
deriving DecidableEq, Repr

/-- FAN_TABLE: one row per fan speed (30_encoding.md R95). -/
structure FanTable where
  auto : FanRow
  quiet : FanRow
  low : FanRow
  medLow : FanRow
  med : FanRow
  medHigh : FanRow
  high : FanRow
  turbo : FanRow
deriving DecidableEq, Repr

/-- One element of a swing position set together with its wire code (00_scope.md R6, 30_encoding.md R94). -/
structure SwingEntry where
  pos : SwingPos
  code : Nat
deriving DecidableEq, Repr

/-- DISP_CODE (30_encoding.md R94): Off has no code. -/
structure DispCodes where
  auto : Nat
  setTemp : Nat
  actualTemp : Nat
  outsideTemp : Nat
deriving DecidableEq, Repr

/-- UNIT_CODE (30_encoding.md R94). -/
structure UnitCodes where
  celsius : Nat
  fahrenheit : Nat
deriving DecidableEq, Repr

/-- The OPEN parameters of 00_scope.md R6, one configuration of the block. `vswing` is VSWING_SET in order, each
element with its VSWING_CODE; `hswing` likewise. -/
structure Config where
  lenConv : LenConv
  fields : FieldTable
  modeCode : ModeCodes
  fanTable : FanTable
  vswing : List SwingEntry
  hswing : List SwingEntry
  dispCode : DispCodes
  unitCode : UnitCodes
  applyIdx : Nat
  ncIdx : Nat
  ncMask : Byte
  constBits : List (Nat × Byte)
  curTempBias : Int
  extSensor : Bool
  tTxMin : Nat
  tGap : Option Nat
deriving DecidableEq, Repr

/-- FREE VALUE. The wire code of a swing position that is in no swing position set. VSWING_CODE and HSWING_CODE are
maps on their sets only (30_encoding.md R94), and no run reaches a state that holds another position; ENCODE cannot
fail (43_encoder.md R210), so it packs this value, of which nothing is known (log entry 8, DESIGN CHOICE, safe). -/
opaque Config.codeOutsideSet : SwingPos → Nat

/-! ### EXCFG -/

/-- EXCFG, the example configuration of 95_test_vectors.md: "EXCFG IS INVENTED FOR THESE TESTS. IT IS NOT THE UNIT'S
LAYOUT." It is the configuration State.reset holds (log entry 1, DESIGN CHOICE). -/
def Config.excfg : Config where
  lenConv := .afterLen
  fields :=
    { mode := ⟨0, 0x07, 0⟩, power := ⟨0, 0x08, 3⟩, fanA := ⟨0, 0x70, 4⟩
      tempSet := ⟨1, 0x0F, 0⟩, fanB := ⟨1, 0x30, 4⟩, quiet := ⟨1, 0x40, 6⟩, turbo := ⟨1, 0x80, 7⟩
      vswing := ⟨2, 0x0F, 0⟩, hswing := ⟨2, 0xF0, 4⟩
      dispPower := ⟨3, 0x01, 0⟩, dispUnit := ⟨3, 0x02, 1⟩, plasma := ⟨3, 0x04, 2⟩
      sleep := ⟨3, 0x08, 3⟩, xfan := ⟨3, 0x10, 4⟩, save := ⟨3, 0x20, 5⟩
      dispMode := ⟨4, 0x0F, 0⟩, tempCur := ⟨5, 0xFF, 0⟩ }
  modeCode := { auto := 0, cool := 1, dry := 2, fanOnly := 3, heat := 4 }
  fanTable :=
    { auto := ⟨0, 0, false, false⟩, quiet := ⟨1, 1, true, false⟩, low := ⟨1, 1, false, false⟩
      medLow := ⟨2, 1, false, false⟩, med := ⟨3, 2, false, false⟩, medHigh := ⟨4, 2, false, false⟩
      high := ⟨5, 3, false, false⟩, turbo := ⟨5, 3, false, true⟩ }
  vswing :=
    [⟨.off, 0⟩, ⟨.fullSwing, 1⟩, ⟨.named "Pos1", 2⟩, ⟨.named "Pos2", 3⟩, ⟨.named "Pos3", 4⟩, ⟨.named "Pos4", 5⟩,
     ⟨.named "Pos5", 6⟩]
  hswing :=
    [⟨.off, 0⟩, ⟨.fullSwing, 1⟩, ⟨.named "Left", 2⟩, ⟨.named "MidLeft", 3⟩, ⟨.named "Mid", 4⟩,
     ⟨.named "MidRight", 5⟩, ⟨.named "Right", 6⟩]
  dispCode := { auto := 0, setTemp := 1, actualTemp := 2, outsideTemp := 3 }
  unitCode := { celsius := 0, fahrenheit := 1 }
  applyIdx := 10
  ncIdx := 11
  ncMask := 0x01
  constBits := [(12, 0x80)]
  curTempBias := 40
  extSensor := false
  tTxMin := 500
  tGap := some 100

end Sys2Proof
end

