-- ==== Sys2Proof/Syntax.lean ====
section
/-! DEFINITION. The sixteen operations of the command port (30_encoding.md R84), one constructor per row of
spec/opcode_table.json, the operand already read in its operand class (R81, R85). -/

namespace Sys2Proof

/-- The operations a host issues on the command port (30_encoding.md R84). -/
inductive Instr where
  /-- FEED b, operand class `byte` (40_receiver.md R121). -/
  | feed (b : Byte)
  /-- POLL (40_receiver.md R127). -/
  | poll
  /-- RESTART (40_receiver.md R129). -/
  | restart
  /-- TICK (44_sequencer.md R240). -/
  | tick
  /-- RESET (70_reset_and_hazards.md R320). -/
  | reset
  /-- SET_MODE m, operand class `enum(6)` (44_sequencer.md R260). -/
  | setMode (m : Mode)
  /-- SET_TEMP v, operand class `temp` (44_sequencer.md R261). -/
  | setTemp (v : Byte)
  /-- SET_FAN f, operand class `enum(8)` (44_sequencer.md R262). -/
  | setFan (f : Fan)
  /-- SET_VSWING i, operand class `enum(NV)`: an index into VSWING_SET (44_sequencer.md R263). -/
  | setVswing (i : Byte)
  /-- SET_HSWING i, operand class `enum(NH)`: an index into HSWING_SET (44_sequencer.md R264). -/
  | setHswing (i : Byte)
  /-- SET_DISPLAY d, operand class `enum(5)` (44_sequencer.md R265). -/
  | setDisplay (d : Disp)
  /-- SET_UNIT u, operand class `enum(2)` (44_sequencer.md R266). -/
  | setUnit (u : TempUnit)
  /-- SET_PLASMA x, operand class `bool` (44_sequencer.md R267). -/
  | setPlasma (x : Bool)
  /-- SET_SLEEP x, operand class `bool` (44_sequencer.md R268). -/
  | setSleep (x : Bool)
  /-- SET_XFAN x, operand class `bool` (44_sequencer.md R269). -/
  | setXfan (x : Bool)
  /-- SET_SAVE x, operand class `bool` (44_sequencer.md R270). -/
  | setSave (x : Bool)
deriving DecidableEq, Repr

end Sys2Proof
end

