-- ==== Sys2Proof/WellFormed.lean ====
section
/-! DEFINITION. Well-formed operations: those some legal command word stands for (30_encoding.md R81, R83). The
operand classes `enum(6)`, `enum(8)`, `enum(5)`, `enum(2)` and `bool` are types of the syntax; what is left to
check is the index of a swing position, whose range depends on the configuration (NV and NH). -/

namespace Sys2Proof

/-- NV = |VSWING_SET| (30_encoding.md R84). -/
def Config.nv (c : Config) : Nat := c.vswing.length

/-- NH = |HSWING_SET| (30_encoding.md R84). -/
def Config.nh (c : Config) : Nat := c.hswing.length

/-- The operand is in its operand class (30_encoding.md R81, R84). -/
def Instr.wf (c : Config) : Instr → Bool
  | .feed _ => true
  | .poll => true
  | .restart => true
  | .tick => true
  | .reset => true
  | .setMode _ => true
  | .setTemp _ => true
  | .setFan _ => true
  | .setVswing i => decide (i.toNat < c.nv)
  | .setHswing i => decide (i.toNat < c.nh)
  | .setDisplay _ => true
  | .setUnit _ => true
  | .setPlasma _ => true
  | .setSleep _ => true
  | .setXfan _ => true
  | .setSave _ => true

end Sys2Proof
end

