-- ==== Sys2Proof/Decode.lean ====
section
/-! DEFINITION. Command words: the enumeration numbers of the port (30_encoding.md R85), the decoding of a word with
its two refusals (R82, R83, R84), and the encoder of a well-formed operation, written from the same table. -/

namespace Sys2Proof

/-- Why a command word is refused (30_encoding.md R82). -/
inductive WordError where
  /-- `op` is no row of R84. -/
  | illegalCommand
  /-- `arg` is outside its operand class. -/
  | illegalOperand
deriving DecidableEq, Repr

/-! ### Enumeration numbers (30_encoding.md R85) -/

/-- Mode: Off 0, Auto 1, Cool 2, Heat 3, Dry 4, FanOnly 5. -/
def Mode.ofPort (n : Nat) : Option Mode :=
  match n with
  | 0 => some .off
  | 1 => some .auto
  | 2 => some .cool
  | 3 => some .heat
  | 4 => some .dry
  | 5 => some .fanOnly
  | _ => none

def Mode.toPort : Mode → Nat
  | .off => 0
  | .auto => 1
  | .cool => 2
  | .heat => 3
  | .dry => 4
  | .fanOnly => 5

/-- Fan: Auto 0, Quiet 1, Low 2, MedLow 3, Med 4, MedHigh 5, High 6, Turbo 7. -/
def Fan.ofPort (n : Nat) : Option Fan :=
  match n with
  | 0 => some .auto
  | 1 => some .quiet
  | 2 => some .low
  | 3 => some .medLow
  | 4 => some .med
  | 5 => some .medHigh
  | 6 => some .high
  | 7 => some .turbo
  | _ => none

def Fan.toPort : Fan → Nat
  | .auto => 0
  | .quiet => 1
  | .low => 2
  | .medLow => 3
  | .med => 4
  | .medHigh => 5
  | .high => 6
  | .turbo => 7

/-- Disp: Off 0, Auto 1, SetTemp 2, ActualTemp 3, OutsideTemp 4. -/
def Disp.ofPort (n : Nat) : Option Disp :=
  match n with
  | 0 => some .off
  | 1 => some .auto
  | 2 => some .setTemp
  | 3 => some .actualTemp
  | 4 => some .outsideTemp
  | _ => none

def Disp.toPort : Disp → Nat
  | .off => 0
  | .auto => 1
  | .setTemp => 2
  | .actualTemp => 3
  | .outsideTemp => 4

/-- Unit: Celsius 0, Fahrenheit 1. -/
def TempUnit.ofPort (n : Nat) : Option TempUnit :=
  match n with
  | 0 => some .celsius
  | 1 => some .fahrenheit
  | _ => none

def TempUnit.toPort : TempUnit → Nat
  | .celsius => 0
  | .fahrenheit => 1

/-- Operand class `bool`: 0x00 false, 0x01 true (30_encoding.md R81). -/
def boolOfPort (n : Nat) : Option Bool :=
  match n with
  | 0 => some false
  | 1 => some true
  | _ => none

def boolToPort (x : Bool) : Nat := if x then 1 else 0

/-- Operand class `enum(k)` of a swing index: the byte itself, below k (30_encoding.md R81, R85). -/
def indexOfPort (k : Nat) (arg : Byte) : Option Byte := if arg.toNat < k then some arg else none

/-! ### Decoding (30_encoding.md R82 to R84) -/

/-- `op = w[15:8]` (30_encoding.md R80). -/
def opOf (w : Word) : Byte := w.extractLsb' 8 8

/-- `arg = w[7:0]` (30_encoding.md R80). -/
def argOf (w : Word) : Byte := w.extractLsb' 0 8

/-- An operand read in its class, or ILLEGAL_OPERAND (30_encoding.md R82). -/
def withOperand {α : Type} (operand : Option α) (mk : α → Instr) : Except WordError Instr :=
  match operand with
  | some x => .ok (mk x)
  | none => .error .illegalOperand

/-- Operand class `none`: arg must be 0x00 (30_encoding.md R81). -/
def withoutOperand (arg : Byte) (i : Instr) : Except WordError Instr :=
  if arg = 0 then .ok i else .error .illegalOperand

/-- The operation a command word stands for, the opcode check before the operand check (30_encoding.md R82, R84). -/
def decode (c : Config) (w : Word) : Except WordError Instr :=
  let arg := argOf w
  match (opOf w).toNat with
  | 0x01 => .ok (.feed arg)
  | 0x02 => withoutOperand arg .poll
  | 0x03 => withoutOperand arg .restart
  | 0x04 => withoutOperand arg .tick
  | 0x05 => withoutOperand arg .reset
  | 0x10 => withOperand (Mode.ofPort arg.toNat) .setMode
  | 0x11 => .ok (.setTemp arg)
  | 0x12 => withOperand (Fan.ofPort arg.toNat) .setFan
  | 0x13 => withOperand (indexOfPort c.nv arg) .setVswing
  | 0x14 => withOperand (indexOfPort c.nh arg) .setHswing
  | 0x15 => withOperand (Disp.ofPort arg.toNat) .setDisplay
  | 0x16 => withOperand (TempUnit.ofPort arg.toNat) .setUnit
  | 0x17 => withOperand (boolOfPort arg.toNat) .setPlasma
  | 0x18 => withOperand (boolOfPort arg.toNat) .setSleep
  | 0x19 => withOperand (boolOfPort arg.toNat) .setXfan
  | 0x1A => withOperand (boolOfPort arg.toNat) .setSave
  | _ => .error .illegalCommand

/-- The instruction the decoder reads from the opcode-table bits `w` of a row of `nbits` bits, bits above `nbits`
zero, under the configuration State.reset holds (log entry 13). One word is the whole instruction
(30_encoding.md R99). -/
def decodeTableWord (nbits w : Nat) : Option Instr :=
  match decode Config.excfg (BitVec.ofNat 16 (w % 2 ^ nbits)) with
  | .ok i => some i
  | .error _ => none

/-! ### Encoding (30_encoding.md R84, R100: `op << 8 | arg`) -/

/-- `op << 8 | arg` (30_encoding.md R100). -/
def wordOf (op arg : Byte) : Word := op ++ arg

/-- The command word of an operation. -/
def encode : Instr → Word
  | .feed b => wordOf 0x01 b
  | .poll => wordOf 0x02 0
  | .restart => wordOf 0x03 0
  | .tick => wordOf 0x04 0
  | .reset => wordOf 0x05 0
  | .setMode m => wordOf 0x10 (BitVec.ofNat 8 m.toPort)
  | .setTemp v => wordOf 0x11 v
  | .setFan f => wordOf 0x12 (BitVec.ofNat 8 f.toPort)
  | .setVswing i => wordOf 0x13 i
  | .setHswing i => wordOf 0x14 i
  | .setDisplay d => wordOf 0x15 (BitVec.ofNat 8 d.toPort)
  | .setUnit u => wordOf 0x16 (BitVec.ofNat 8 u.toPort)
  | .setPlasma x => wordOf 0x17 (BitVec.ofNat 8 (boolToPort x))
  | .setSleep x => wordOf 0x18 (BitVec.ofNat 8 (boolToPort x))
  | .setXfan x => wordOf 0x19 (BitVec.ofNat 8 (boolToPort x))
  | .setSave x => wordOf 0x1A (BitVec.ofNat 8 (boolToPort x))

end Sys2Proof
end

