-- ==== Sys2Proof/Machine/State.lean ====
section
/-! DEFINITION. The state of the block (10_state.md), its outputs (R46, R47), the two kinds of stop of the model, and
the state after reset (70_reset_and_hazards.md R320, R321). -/

namespace Sys2Proof.Machine

/-! ### Enumerations of the sequencer, the receiver and the response record (00_scope.md R11) -/

/-- 10_state.md R34. -/
inductive ReceiveState where
  | awaitingSync | receiving | complete | restart
deriving DecidableEq, Repr

/-- 10_state.md R42. -/
inductive PendingUpdate where
  | none | started | clearing
deriving DecidableEq, Repr

/-- 10_state.md R39. -/
inductive LinkState where
  | initializing | ready
deriving DecidableEq, Repr

/-- 00_scope.md R11, 60_exceptions.md R300. -/
inductive FrameEvent where
  | none | complete | restart
deriving DecidableEq, Repr

/-- The status codes of 60_exceptions.md R291. -/
inductive Status where
  | ok | tooShort | unknownCommand | badChecksum | bodyTooShort | framingStall | notReady | illegalCommand
  | illegalOperand | busy
deriving DecidableEq, Repr

/-- The warning kinds of 60_exceptions.md R294. -/
inductive WarningKind where
  | unknownFieldValue | outOfRangeTemperature
deriving DecidableEq, Repr

/-- A warning is a kind and a field id (60_exceptions.md R294). -/
structure Warning where
  kind : WarningKind
  field : BodyField
deriving DecidableEq, Repr

/-- What the read port shows (10_state.md R49): the value of one DeviceState field, or of link. -/
inductive ReadValue where
  | bool (x : Bool)
  | mode (m : Mode)
  | temp (t : Nat)
  | optTemp (t : Option Int)
  | fan (f : Fan)
  | swing (p : SwingPos)
  | disp (d : Disp)
  | unit (u : TempUnit)
  | link (l : LinkState)
deriving DecidableEq, Repr

/-- The response record of an operation (10_state.md R46, 60_exceptions.md R290). A field the operation does not set
is None, false or empty. -/
structure Response where
  status : Status
  event : FrameEvent := .none
  changed : Bool := false
  warnings : List Warning := []
  txSent : Bool := false
  linkDropped : Bool := false
  value : Option ReadValue := Option.none
deriving DecidableEq, Repr

/-- One operation as the host issues it: a command word together with the time input (30_encoding.md R80). -/
structure Command where
  nowMs : Time
  word : Word
deriving DecidableEq, Repr

/-- The thirteen observable fields (10_state.md R21). -/
structure DeviceState where
  power : Bool
  mode : Mode
  targetTemperature : Nat
  currentTemperature : Option Int
  fanMode : Fan
  verticalSwing : SwingPos
  horizontalSwing : SwingPos
  displayMode : Disp
  displayUnit : TempUnit
  plasma : Bool
  sleep : Bool
  xfan : Bool
  save : Bool
deriving DecidableEq, Repr

/-- A byte buffer: (index, byte) pairs with strictly rising indices and no byte 0x00, which is what an unlisted index
reads as (10_state.md R35: reset contents all 0x00; log entry 6). -/
abbrev Memory := List Host.Cell

/-- The state of the block. -/
structure State where
  /-- The configuration, an argument of the model that no operation writes (20_memory.md R74; log entry 1). -/
  cfg : Config
  /-- The operations the host has issued and the block has not taken yet, oldest first (20_memory.md R70; log
  entry 2). -/
  port : List Command
  /-- The time input, as sampled by the last operation (10_state.md R40; log entry 3). -/
  nowMs : Time
  /-- Milliseconds since the host's last TICK, absent before the first operation (the model's own, U16; log
  entry 4). -/
  tickAgeMs : Option Nat
  /-- DeviceState (10_state.md R21 to R31). -/
  dev : DeviceState
  /-- 10_state.md R32. -/
  lastMode : OnMode
  /-- 10_state.md R33. -/
  lastDisplayMode : OnDisp
  /-- 10_state.md R34. -/
  rxState : ReceiveState
  /-- 10_state.md R35. -/
  rxBuf : Memory
  /-- 10_state.md R36. -/
  rxCount : Nat
  /-- 10_state.md R37. -/
  rxNeed : Nat
  /-- 10_state.md R38. -/
  lastByteMs : Time
  /-- 10_state.md R39. -/
  link : LinkState
  /-- 10_state.md R42. -/
  pending : PendingUpdate
  /-- 10_state.md R43. -/
  awaiting : Bool
  /-- 10_state.md R44. -/
  lastValidMs : Time
  /-- 10_state.md R45. -/
  lastTxMs : Time
  /-- The response record of the last operation (10_state.md R46; log entry 5). -/
  resp : Response
  /-- The transmit port after the last operation: the frame while the strobe tx_valid is true, else no frame
  (10_state.md R47; log entry 5). -/
  tx : Option (List Byte)
deriving DecidableEq, Repr

/-- Why the machine stops with a fault. -/
inductive Fault where
  /-- Raised by `fetch` when the host has issued no further operation: the run has ended (70_reset_and_hazards.md R332).
  Safe: the block does nothing by itself (70_reset_and_hazards.md R340). -/
  | noCommand
  /-- Raised by FEED and POLL when they would access rx_buf outside its indices 0..257, which no rule does
  (20_memory.md R60, R65). Safe: no run reaches such a state (10_state.md R51). -/
  | rxIndexOutside
deriving DecidableEq, Repr

/-- Why a step has no meaning. -/
inductive Refusal where
  /-- An instruction without a meaning, in exec's arms only. Safe. No arm of this model uses it. -/
  | notModelled (mnemonic : String)
  /-- Raised by `fetch` when the configuration breaks 00_scope.md R7 ("else the model refuses the configuration"; U6).
  Safe. -/
  | badConfiguration
  /-- Raised by `fetch` when the host breaks its time duties (93_implementation_defined.md U16: "refuse"; R331, R336).
  Safe. -/
  | hostTimeDuty
deriving DecidableEq, Repr

/-- The three outcomes of a step of this machine. -/
abbrev Result := Host.Outcome State Fault Refusal

/-- The DeviceState of RESET (70_reset_and_hazards.md R320, 10_state.md R21). -/
def DeviceState.reset : DeviceState where
  power := false
  mode := .off
  targetTemperature := 16
  currentTemperature := none
  fanMode := .auto
  verticalSwing := .off
  horizontalSwing := .off
  displayMode := .off
  displayUnit := .celsius
  plasma := false
  sleep := false
  xfan := false
  save := false

/-- The state at power-up of a block with configuration `c`: the state RESET gives (70_reset_and_hazards.md R320,
R321), with no operation issued and no time sampled yet (log entries 2, 3, 4, 5). -/
def State.resetWith (c : Config) : State where
  cfg := c
  port := []
  nowMs := 0
  tickAgeMs := none
  dev := .reset
  lastMode := .auto
  lastDisplayMode := .auto
  rxState := .awaitingSync
  rxBuf := []
  rxCount := 0
  rxNeed := 0
  lastByteMs := 0
  link := .initializing
  pending := .none
  awaiting := false
  lastValidMs := 0
  lastTxMs := 0
  resp := { status := .ok }
  tx := none

/-- The machine right after reset, with the configuration EXCFG (log entry 1, DESIGN CHOICE). -/
def State.reset : State := State.resetWith Config.excfg

end Sys2Proof.Machine
end

