-- ==== Sys2Proof/Machine/Ops.lean ====
section
/-! DEFINITION. The named operations over the receive buffer, the time input and the outputs, and the one operation by
which the block reports an operation it turns away. The block has no trap, no saved state and no return from trap
(60_exceptions.md R297): every failure is a status in the response record of the operation that met it. -/

namespace Sys2Proof.Machine

/-! ### The receive buffer (20_memory.md R60, R62) -/

/-- Read one byte; an unlisted index reads 0x00 (10_state.md R35). -/
def Memory.read : Memory → Nat → Byte
  | [], _ => 0
  | (b, w) :: m, i => if b = i then w else Memory.read m i

/-- Put the byte `v` before the entries of `m`, unless it is what an unlisted index reads as. -/
def Memory.cons (i : Nat) (v : Byte) (m : Memory) : Memory := if v = 0 then m else (i, v) :: m

/-- Write one byte, keeping the canonical form. -/
def Memory.write : Memory → Nat → Byte → Memory
  | [], i, v => Memory.cons i v []
  | (b, w) :: m, i, v =>
    if i < b then Memory.cons i v ((b, w) :: m)
    else if i = b then Memory.cons i v m
    else (b, w) :: Memory.write m i v

/-- Every index of `m` is above `lo`, they rise strictly, stay below RX_CAP, and no listed byte is 0x00. -/
def Memory.wfAbove : Option Nat → Memory → Bool
  | _, [] => true
  | lo, (b, w) :: m =>
    (match lo with | none => true | some l => decide (l < b)) && decide (b < rxCap) && decide (w ≠ 0) &&
      Memory.wfAbove (some b) m

/-- The canonical form of the receive buffer. -/
def Memory.wf (m : Memory) : Bool := Memory.wfAbove none m

/-- The bytes rx_buf[0 .. n-1] (00_scope.md R9). -/
def Memory.readRange (m : Memory) (n : Nat) : List Byte := (List.range n).map (Memory.read m)

/-! ### Time (10_state.md R41) -/

/-- elapsed(t) = (now_ms - t) mod 2^32. -/
def elapsed (s : State) (t : Time) : Nat := (s.nowMs - t).toNat

/-! ### Outputs (10_state.md R46, R47; 60_exceptions.md R290) -/

/-- respond(...): overwrite the response record and leave the transmit port without a frame. -/
def respond (r : Response) (s : State) : State := { s with resp := r, tx := none }

/-- An operation turned away: the status is reported and no register changes (60_exceptions.md R296). -/
def turnAway (st : Status) (s : State) : Result := .next (respond { status := st } s)

/-- The status of a refused command word (30_encoding.md R82). -/
def WordError.status : WordError → Status
  | .illegalCommand => .illegalCommand
  | .illegalOperand => .illegalOperand

/-- A refused command word: no register changes and nothing is transmitted (30_encoding.md R82). -/
def refuseWord (e : WordError) (s : State) : Result := turnAway (WordError.status e) s

/-! ### Receiver registers -/

/-- Discard the accumulated bytes and enter `r` (40_receiver.md R127 to R130). -/
def emptyReceiver (r : ReceiveState) (s : State) : State := { s with rxState := r, rxCount := 0, rxNeed := 0 }

/-! ### Control requests (44_sequencer.md R271) -/

/-- REQUEST { body }: NOT_READY while Initializing; else the body's write and pending <- Started. -/
def request (body : State → State) (s : State) : Result :=
  match s.link with
  | .initializing => turnAway .notReady s
  | .ready => .next (respond { status := .ok } { body s with pending := .started })

/-! ### Codes on the port (60_exceptions.md R291, R294; 30_encoding.md R85, R90) -/

def Status.code : Status → Byte
  | .ok => 0x00
  | .tooShort => 0x01
  | .unknownCommand => 0x02
  | .badChecksum => 0x03
  | .bodyTooShort => 0x04
  | .framingStall => 0x05
  | .notReady => 0x08
  | .illegalCommand => 0x09
  | .illegalOperand => 0x0A
  | .busy => 0x0B

def WarningKind.code : WarningKind → Byte
  | .unknownFieldValue => 0x06
  | .outOfRangeTemperature => 0x07

def FrameEvent.toPort : FrameEvent → Nat
  | .none => 0
  | .complete => 1
  | .restart => 2

def ReceiveState.toPort : ReceiveState → Nat
  | .awaitingSync => 0
  | .receiving => 1
  | .complete => 2
  | .restart => 3

def PendingUpdate.toPort : PendingUpdate → Nat
  | .none => 0
  | .started => 1
  | .clearing => 2

def LinkState.toPort : LinkState → Nat
  | .initializing => 0
  | .ready => 1

end Sys2Proof.Machine
end

