-- ==== Sys2Proof/Machine/Operands.lean ====
section
/-! DEFINITION. The operand forms of a body: field descriptors, extraction and packing (30_encoding.md R90 to R93),
the value codes and their inverses (R94 to R97), the frame length n(L) (R88), and the checksum (41_validator.md R156). -/

namespace Sys2Proof.Machine

/-! ### Field descriptors (30_encoding.md R90, R91) -/

/-- The seventeen fields in the order of their ids. -/
def BodyField.all : List BodyField :=
  [.power, .mode, .tempSet, .tempCur, .fanA, .fanB, .quiet, .turbo, .vswing, .hswing, .dispPower, .dispMode,
   .dispUnit, .plasma, .sleep, .xfan, .save]

/-- The field id of 30_encoding.md R90. -/
def BodyField.id : BodyField → Nat
  | .power => 0
  | .mode => 1
  | .tempSet => 2
  | .tempCur => 3
  | .fanA => 4
  | .fanB => 5
  | .quiet => 6
  | .turbo => 7
  | .vswing => 8
  | .hswing => 9
  | .dispPower => 10
  | .dispMode => 11
  | .dispUnit => 12
  | .plasma => 13
  | .sleep => 14
  | .xfan => 15
  | .save => 16

/-- The descriptor of a field. -/
def fieldDesc (c : Config) : BodyField → FieldDesc
  | .power => c.fields.power
  | .mode => c.fields.mode
  | .tempSet => c.fields.tempSet
  | .tempCur => c.fields.tempCur
  | .fanA => c.fields.fanA
  | .fanB => c.fields.fanB
  | .quiet => c.fields.quiet
  | .turbo => c.fields.turbo
  | .vswing => c.fields.vswing
  | .hswing => c.fields.hswing
  | .dispPower => c.fields.dispPower
  | .dispMode => c.fields.dispMode
  | .dispUnit => c.fields.dispUnit
  | .plasma => c.fields.plasma
  | .sleep => c.fields.sleep
  | .xfan => c.fields.xfan
  | .save => c.fields.save

/-- popcount of a byte. -/
def popcount (m : Byte) : Nat := (List.range 8).countP (fun k => m.getLsbD k)

/-- w_F = popcount(mask_F) (30_encoding.md R90). -/
def fieldWidth (c : Config) (f : BodyField) : Nat := popcount (fieldDesc c f).mask

/-- REPORT_MIN_BODY = 1 + max over all seventeen fields of idx_F (30_encoding.md R91). -/
def reportMinBody (c : Config) : Nat := 1 + (BodyField.all.map (fun f => (fieldDesc c f).idx)).foldr max 0

/-- field(body, F) = (body[idx_F] & mask_F) >> shift_F (30_encoding.md R92). No body the decoder runs on is too short
(41_validator.md R155; log entry 20). -/
def field (c : Config) (body : List Byte) (f : BodyField) : Nat :=
  ((body.getD (fieldDesc c f).idx 0 &&& (fieldDesc c f).mask) >>> (fieldDesc c f).shift).toNat

/-- body[i] <- body[i] | v. -/
def orByte (body : List Byte) (i : Nat) (v : Byte) : List Byte := body.set i (body.getD i 0 ||| v)

/-- put(body, F, v): body[idx_F] <- body[idx_F] | ((v << shift_F) & mask_F) (30_encoding.md R93). -/
def put (c : Config) (body : List Byte) (f : BodyField) (v : Nat) : List Byte :=
  orByte body (fieldDesc c f).idx (BitVec.ofNat 8 (v <<< (fieldDesc c f).shift) &&& (fieldDesc c f).mask)

/-- A true boolean is packed as 1 (30_encoding.md R97). -/
def b2n (x : Bool) : Nat := if x then 1 else 0

/-- A boolean field decodes as true exactly when its value is not 0 (30_encoding.md R97). -/
def flag (c : Config) (body : List Byte) (f : BodyField) : Bool := decide (field c body f ≠ 0)

/-! ### Modes and display modes other than Off -/

def OnMode.all : List OnMode := [.auto, .cool, .heat, .dry, .fanOnly]

def OnMode.toMode : OnMode → Mode
  | .auto => .auto
  | .cool => .cool
  | .heat => .heat
  | .dry => .dry
  | .fanOnly => .fanOnly

/-- The mode itself when it is not Off. -/
def Mode.on? : Mode → Option OnMode
  | .off => none
  | .auto => some .auto
  | .cool => some .cool
  | .heat => some .heat
  | .dry => some .dry
  | .fanOnly => some .fanOnly

def OnDisp.all : List OnDisp := [.auto, .setTemp, .actualTemp, .outsideTemp]

def OnDisp.toDisp : OnDisp → Disp
  | .auto => .auto
  | .setTemp => .setTemp
  | .actualTemp => .actualTemp
  | .outsideTemp => .outsideTemp

/-- The display mode itself when it is not Off. -/
def Disp.on? : Disp → Option OnDisp
  | .off => none
  | .auto => some .auto
  | .setTemp => some .setTemp
  | .actualTemp => some .actualTemp
  | .outsideTemp => some .outsideTemp

/-! ### Value codes (30_encoding.md R94, R95) -/

/-- MODE_CODE. -/
def modeCode (c : Config) : OnMode → Nat
  | .auto => c.modeCode.auto
  | .cool => c.modeCode.cool
  | .heat => c.modeCode.heat
  | .dry => c.modeCode.dry
  | .fanOnly => c.modeCode.fanOnly

/-- MODE_CODE^-1, none outside its image. -/
def modeOfCode (c : Config) (v : Nat) : Option OnMode := OnMode.all.find? (fun m => modeCode c m = v)

/-- DISP_CODE. -/
def dispCode (c : Config) : OnDisp → Nat
  | .auto => c.dispCode.auto
  | .setTemp => c.dispCode.setTemp
  | .actualTemp => c.dispCode.actualTemp
  | .outsideTemp => c.dispCode.outsideTemp

/-- DISP_CODE^-1. -/
def dispOfCode (c : Config) (v : Nat) : Option OnDisp := OnDisp.all.find? (fun d => dispCode c d = v)

def TempUnit.all : List TempUnit := [.celsius, .fahrenheit]

/-- UNIT_CODE. -/
def unitCode (c : Config) : TempUnit → Nat
  | .celsius => c.unitCode.celsius
  | .fahrenheit => c.unitCode.fahrenheit

/-- UNIT_CODE^-1. -/
def unitOfCode (c : Config) (v : Nat) : Option TempUnit := TempUnit.all.find? (fun u => unitCode c u = v)

def Fan.all : List Fan := [.auto, .quiet, .low, .medLow, .med, .medHigh, .high, .turbo]

/-- FAN_TABLE (30_encoding.md R95). -/
def fanRow (c : Config) : Fan → FanRow
  | .auto => c.fanTable.auto
  | .quiet => c.fanTable.quiet
  | .low => c.fanTable.low
  | .medLow => c.fanTable.medLow
  | .med => c.fanTable.med
  | .medHigh => c.fanTable.medHigh
  | .high => c.fanTable.high
  | .turbo => c.fanTable.turbo

/-- FAN_TABLE^-1, an exact match on all four parts (42_decoder.md R178, decision D38). -/
def fanOfRow (c : Config) (r : FanRow) : Option Fan := Fan.all.find? (fun f => fanRow c f = r)

/-- VSWING_CODE or HSWING_CODE, on the set `set`; outside the set the free value (log entry 8). -/
def swingCode (set : List SwingEntry) (p : SwingPos) : Nat :=
  match set.find? (fun e => e.pos = p) with
  | some e => e.code
  | none => Config.codeOutsideSet p

/-- VSWING_CODE^-1 or HSWING_CODE^-1. -/
def swingOfCode (set : List SwingEntry) (v : Nat) : Option SwingPos :=
  (set.find? (fun e => e.code = v)).map (fun e => e.pos)

/-- VSWING_SET[i] or HSWING_SET[i] (44_sequencer.md R263, R264). -/
def swingAt (set : List SwingEntry) (i : Byte) : Option SwingPos := (set[i.toNat]?).map (fun e => e.pos)

/-! ### Frames (30_encoding.md R88, 41_validator.md R156, 43_encoder.md R222) -/

/-- n(L), the length of the frame whose LEN byte is L. -/
def frameLen (c : Config) (l : Byte) : Nat :=
  match c.lenConv with
  | .afterLen => l.toNat + 3
  | .total => max l.toNat 3

/-- LEN_TX, the LEN byte of an outbound frame. -/
def lenTx (c : Config) : Byte :=
  match c.lenConv with
  | .afterLen => 47
  | .total => 50

/-- chk(s) = sum(s) mod 256. -/
def chk (bs : List Byte) : Byte := BitVec.ofNat 8 ((bs.map BitVec.toNat).sum)

/-- clamp(x, lo, hi) = min(max(x, lo), hi) (00_scope.md R10). -/
def clamp (x lo hi : Nat) : Nat := min (max x lo) hi

end Sys2Proof.Machine
end

