-- ==== Sys2Proof/Machine/Flags.lean ====
section
/-! DEFINITION. The block's two flag-like values (10_state.md R50): the `changed` result of a decode
(42_decoder.md R186), an output, and the reading of `awaiting` by the throttle (44_sequencer.md R245). -/

namespace Sys2Proof.Machine

/-- `changed`: the thirteen observable fields differ from the snapshot before the decode (42_decoder.md R186). -/
def changedFlag (old new : DeviceState) : Bool := decide (new ≠ old)

/-- THROTTLE_OK: not awaiting, or elapsed(last_tx_ms) >= T_TX_MIN (44_sequencer.md R245). -/
def throttleOk (s : State) : Bool := !s.awaiting || decide (s.cfg.tTxMin ≤ elapsed s s.lastTxMs)

/-- The inactivity comparison: elapsed(last_valid_ms) > T_INACT while Ready (44_sequencer.md R242). -/
def linkExpired (s : State) : Bool := decide (s.link = .ready) && decide (tInact < elapsed s s.lastValidMs)

/-- The inter-byte comparison on a partial frame (40_receiver.md R130). -/
def stalled (s : State) : Bool :=
  match s.cfg.tGap with
  | none => false
  | some gap =>
    (decide (s.rxState = .awaitingSync ∧ s.rxCount = 1) || decide (s.rxState = .receiving)) &&
      decide (gap < elapsed s s.lastByteMs)

end Sys2Proof.Machine
end

