-- ==== Sys2Proof/Machine/Decoder.lean ====
section
/-! DEFINITION. The report decoder (42_decoder.md): DECODE, an internal step of POLL, as the nine steps of R170 over
the registers it writes and the warnings it appends. -/

namespace Sys2Proof.Machine

/-- What DECODE writes (42_decoder.md R170): the DeviceState, the two retention registers, and the warnings W. -/
structure Decoded where
  dev : DeviceState
  lastMode : OnMode
  lastDisplayMode : OnDisp
  warnings : List Warning
deriving DecidableEq, Repr

/-- warn(kind, field) (00_scope.md R10). -/
def warn (k : WarningKind) (f : BodyField) (d : Decoded) : Decoded := { d with warnings := d.warnings ++ [⟨k, f⟩] }

/-- DEC_POWER_MODE (42_decoder.md R172 to R174). -/
def decPowerMode (c : Config) (body : List Byte) (d : Decoded) : Decoded :=
  let p := flag c body .power
  match modeOfCode c (field c body .mode) with
  | some m =>
    { d with dev := { d.dev with power := p, mode := if p then OnMode.toMode m else .off }, lastMode := m }
  | none => warn .unknownFieldValue .mode { d with dev := { d.dev with power := p, mode := .off } }

/-- DEC_TARGET_TEMP (42_decoder.md R175, R176). -/
def decTargetTemp (c : Config) (body : List Byte) (d : Decoded) : Decoded :=
  let t := field c body .tempSet + tempOffset
  if tempMax < t ∨ tempSanity < t then warn .outOfRangeTemperature .tempSet d
  else { d with dev := { d.dev with targetTemperature := t } }

/-- DEC_CURRENT_TEMP, skipped with an external sensor (42_decoder.md R176, R177). -/
def decCurrentTemp (c : Config) (body : List Byte) (d : Decoded) : Decoded :=
  if c.extSensor then d
  else
    let u : Int := (field c body .tempCur : Int) - c.curTempBias
    if (tempSanity : Int) < u then warn .outOfRangeTemperature .tempCur d
    else { d with dev := { d.dev with currentTemperature := some u } }

/-- The fan combination of a body (42_decoder.md R178). -/
def fanKey (c : Config) (body : List Byte) : FanRow where
  a := field c body .fanA
  b := field c body .fanB
  quiet := flag c body .quiet
  turbo := flag c body .turbo

/-- DEC_FAN (42_decoder.md R178, R179). -/
def decFan (c : Config) (body : List Byte) (d : Decoded) : Decoded :=
  match fanOfRow c (fanKey c body) with
  | some f => { d with dev := { d.dev with fanMode := f } }
  | none => warn .unknownFieldValue .fanA { d with dev := { d.dev with fanMode := .auto } }

/-- DEC_VSWING (42_decoder.md R180). -/
def decVswing (c : Config) (body : List Byte) (d : Decoded) : Decoded :=
  match swingOfCode c.vswing (field c body .vswing) with
  | some p => { d with dev := { d.dev with verticalSwing := p } }
  | none => warn .unknownFieldValue .vswing { d with dev := { d.dev with verticalSwing := .off } }

/-- DEC_HSWING (42_decoder.md R181). -/
def decHswing (c : Config) (body : List Byte) (d : Decoded) : Decoded :=
  match swingOfCode c.hswing (field c body .hswing) with
  | some p => { d with dev := { d.dev with horizontalSwing := p } }
  | none => warn .unknownFieldValue .hswing { d with dev := { d.dev with horizontalSwing := .off } }

/-- DEC_DISPLAY (42_decoder.md R182). -/
def decDisplay (c : Config) (body : List Byte) (d : Decoded) : Decoded :=
  match dispOfCode c (field c body .dispMode) with
  | some m =>
    { d with
      dev := { d.dev with displayMode := if flag c body .dispPower then OnDisp.toDisp m else .off }
      lastDisplayMode := m }
  | none => warn .unknownFieldValue .dispMode { d with dev := { d.dev with displayMode := .off } }

/-- DEC_UNIT (42_decoder.md R183). -/
def decUnit (c : Config) (body : List Byte) (d : Decoded) : Decoded :=
  match unitOfCode c (field c body .dispUnit) with
  | some u => { d with dev := { d.dev with displayUnit := u } }
  | none => warn .unknownFieldValue .dispUnit { d with dev := { d.dev with displayUnit := .celsius } }

/-- DEC_TOGGLES (42_decoder.md R184). -/
def decToggles (c : Config) (body : List Byte) (d : Decoded) : Decoded :=
  { d with
    dev :=
      { d.dev with
        plasma := flag c body .plasma
        sleep := flag c body .sleep
        xfan := flag c body .xfan
        save := flag c body .save } }

/-- DECODE, in the order of 42_decoder.md R170, from the registers and warnings `d`. -/
def decodeFrom (c : Config) (body : List Byte) (d : Decoded) : Decoded :=
  decToggles c body (decUnit c body (decDisplay c body (decHswing c body (decVswing c body (decFan c body
    (decCurrentTemp c body (decTargetTemp c body (decPowerMode c body d))))))))

/-- DECODE of a body from the registers of `s`, W empty (42_decoder.md R170). -/
def decodeReport (body : List Byte) (s : State) : Decoded :=
  decodeFrom s.cfg body
    { dev := s.dev, lastMode := s.lastMode, lastDisplayMode := s.lastDisplayMode, warnings := [] }

end Sys2Proof.Machine
end

