-- ==== Sys2Proof/Machine/Validator.lean ====
section
/-! DEFINITION. The packet validator (41_validator.md): VERIFY, an internal step of POLL. -/

namespace Sys2Proof.Machine

/-- f[2 .. n-2]: what the checksum covers (41_validator.md R154). -/
def summedRange (f : List Byte) : List Byte := (f.take (f.length - 1)).drop 2

/-- f[4 .. n-2]: the report body (20_memory.md R60, R66). -/
def bodyOf (f : List Byte) : List Byte := (f.take (f.length - 1)).drop 4

/-- VERIFY: the first failing check's code, or OK (41_validator.md R150 to R155). -/
def verify (c : Config) (f : List Byte) : Status :=
  if f.length < minFrame then .tooShort
  else if f.getD 3 0 ∉ allow then .unknownCommand
  else if chk (summedRange f) ≠ f.getD (f.length - 1) 0 then .badChecksum
  else if f.length - 5 < reportMinBody c then .bodyTooShort
  else .ok

end Sys2Proof.Machine
end

