-- ==== Sys2Proof/Machine/Receiver.lean ====
section
/-! DEFINITION. The frame receiver (40_receiver.md): FEED, POLL, RESTART and the stall check of TICK; with them
ACCEPT_REPORT (44_sequencer.md R241), which POLL runs on an accepted report. -/

namespace Sys2Proof.Machine

/-- An accepted byte: the receiver registers as given, last_byte_ms <- now_ms, status OK (40_receiver.md R121). -/
def accepted (st : ReceiveState) (buf : Memory) (count need : Nat) (s : State) : Result :=
  .next (respond { status := .ok }
    { s with rxState := st, rxBuf := buf, rxCount := count, rxNeed := need, lastByteMs := s.nowMs })

/-- FEED in AwaitingSync (40_receiver.md R122, R123). -/
def feedAwaiting (b : Byte) (s : State) : Result :=
  if s.rxCount = 0 then
    if b = sync then accepted .awaitingSync (Memory.write s.rxBuf 0 b) 1 s.rxNeed s
    else accepted .awaitingSync s.rxBuf s.rxCount s.rxNeed s
  else if b = sync then accepted .receiving (Memory.write s.rxBuf 1 b) 2 s.rxNeed s
  else accepted .awaitingSync s.rxBuf 0 s.rxNeed s

/-- The state after the byte that makes `count` bytes of `need` (40_receiver.md R124, R125). -/
def stateAtCount (count need : Nat) : ReceiveState := if count = need then .complete else .receiving

/-- FEED in Receiving: store the byte, and take the third one as LEN (40_receiver.md R124, R125). An index outside
rx_buf, which no run reaches, faults (log entry 7). -/
def feedReceiving (b : Byte) (s : State) : Result :=
  if s.rxCount < rxCap then
    let count := s.rxCount + 1
    let need := if count = 3 then frameLen s.cfg b else s.rxNeed
    accepted (stateAtCount count need) (Memory.write s.rxBuf s.rxCount b) count need s
  else .fault .rxIndexOutside

/-- FEED b (40_receiver.md R121, R126). -/
def execFeed (b : Byte) (s : State) : Result :=
  match s.rxState with
  | .complete => turnAway .busy s
  | .restart => turnAway .busy s
  | .awaitingSync => feedAwaiting b s
  | .receiving => feedReceiving b s

/-- ACCEPT_REPORT (44_sequencer.md R241). -/
def acceptReport (s : State) : State := { s with link := .ready, lastValidMs := s.nowMs, awaiting := false }

/-- DECODE and ACCEPT_REPORT on a frame VERIFY accepted, and the response of that POLL (40_receiver.md R127). -/
def takeReport (f : List Byte) (s : State) : Result :=
  let d := decodeReport (bodyOf f) s
  .next (respond
    { status := .ok, event := .complete, changed := changedFlag s.dev d.dev, warnings := d.warnings }
    (acceptReport { s with dev := d.dev, lastMode := d.lastMode, lastDisplayMode := d.lastDisplayMode }))

/-- POLL in Complete: the frame is moved out, the receiver emptied, and the frame verified (40_receiver.md R127,
20_memory.md R61). A frame longer than rx_buf, which no run reaches, faults (log entry 7). -/
def pollComplete (s : State) : Result :=
  if s.rxNeed ≤ rxCap then
    let f := Memory.readRange s.rxBuf s.rxNeed
    let s' := emptyReceiver .awaitingSync s
    match verify s.cfg f with
    | .ok => takeReport f s'
    | r => .next (respond { status := r, event := .complete } s')
  else .fault .rxIndexOutside

/-- POLL (40_receiver.md R127, R128). -/
def execPoll (s : State) : Result :=
  match s.rxState with
  | .complete => pollComplete s
  | .restart =>
    .next (respond { status := .framingStall, event := .restart } { s with rxState := .awaitingSync })
  | .awaitingSync => .next (respond { status := .ok } s)
  | .receiving => .next (respond { status := .ok } s)

/-- RESTART (40_receiver.md R129). -/
def execRestart (s : State) : Result := .next (respond { status := .ok } (emptyReceiver .awaitingSync s))

/-- STALL_CHECK (40_receiver.md R130). -/
def stallCheck (s : State) : State := if stalled s then emptyReceiver .restart s else s

end Sys2Proof.Machine
end

