-- ==== Sys2Proof/Machine/Requests.lean ====
section
/-! DEFINITION. The eleven control requests (44_sequencer.md R260 to R271). -/

namespace Sys2Proof.Machine

/-- The retained mode after a request for `m`: kept when `m` is Off (44_sequencer.md R260). -/
def retainedMode (m : Mode) (last : OnMode) : OnMode := (Mode.on? m).getD last

/-- The retained display mode after a request for `d` (44_sequencer.md R265). -/
def retainedDisp (d : Disp) (last : OnDisp) : OnDisp := (Disp.on? d).getD last

/-- SET_MODE (44_sequencer.md R260). -/
def execSetMode (m : Mode) (s : State) : Result :=
  request (fun s =>
    { s with
      dev := { s.dev with mode := m, power := decide (m ≠ .off) }
      lastMode := retainedMode m s.lastMode }) s

/-- SET_TEMP (44_sequencer.md R261). -/
def execSetTemp (v : Byte) (s : State) : Result :=
  request (fun s => { s with dev := { s.dev with targetTemperature := clamp v.toNat tempMin tempMax } }) s

/-- SET_FAN (44_sequencer.md R262). -/
def execSetFan (f : Fan) (s : State) : Result :=
  request (fun s => { s with dev := { s.dev with fanMode := f } }) s

/-- SET_VSWING (44_sequencer.md R263): an index outside VSWING_SET is ILLEGAL_OPERAND whatever the link state
(30_encoding.md R82; log entry 14). -/
def execSetVswing (i : Byte) (s : State) : Result :=
  match swingAt s.cfg.vswing i with
  | some p => request (fun s => { s with dev := { s.dev with verticalSwing := p } }) s
  | none => refuseWord .illegalOperand s

/-- SET_HSWING (44_sequencer.md R264), as SET_VSWING. -/
def execSetHswing (i : Byte) (s : State) : Result :=
  match swingAt s.cfg.hswing i with
  | some p => request (fun s => { s with dev := { s.dev with horizontalSwing := p } }) s
  | none => refuseWord .illegalOperand s

/-- SET_DISPLAY (44_sequencer.md R265). -/
def execSetDisplay (d : Disp) (s : State) : Result :=
  request (fun s =>
    { s with
      dev := { s.dev with displayMode := d }
      lastDisplayMode := retainedDisp d s.lastDisplayMode }) s

/-- SET_UNIT (44_sequencer.md R266). -/
def execSetUnit (u : TempUnit) (s : State) : Result :=
  request (fun s => { s with dev := { s.dev with displayUnit := u } }) s

/-- SET_PLASMA (44_sequencer.md R267). -/
def execSetPlasma (x : Bool) (s : State) : Result :=
  request (fun s => { s with dev := { s.dev with plasma := x } }) s

/-- SET_SLEEP (44_sequencer.md R268). -/
def execSetSleep (x : Bool) (s : State) : Result :=
  request (fun s => { s with dev := { s.dev with sleep := x } }) s

/-- SET_XFAN (44_sequencer.md R269). -/
def execSetXfan (x : Bool) (s : State) : Result :=
  request (fun s => { s with dev := { s.dev with xfan := x } }) s

/-- SET_SAVE (44_sequencer.md R270). -/
def execSetSave (x : Bool) (s : State) : Result :=
  request (fun s => { s with dev := { s.dev with save := x } }) s

end Sys2Proof.Machine
end

