-- ==== Sys2Proof/Machine/Reset.lean ====
section
/-! DEFINITION. RESET (70_reset_and_hazards.md R320). -/

namespace Sys2Proof.Machine

/-- Every register of 10_state.md at its reset value; the configuration, the host's inputs and its clock are none of
them and stay (20_memory.md R74, 10_state.md R40). -/
def resetRegisters (s : State) : State :=
  { State.resetWith s.cfg with port := s.port, nowMs := s.nowMs, tickAgeMs := s.tickAgeMs }

/-- RESET (70_reset_and_hazards.md R320). -/
def execReset (s : State) : Result := .next (respond { status := .ok } (resetRegisters s))

end Sys2Proof.Machine
end

