-- ==== Sys2Proof/Machine/Encoder.lean ====
section
/-! DEFINITION. The command encoder (43_encoder.md): ENCODE and FRAME, internal steps of TICK. -/

namespace Sys2Proof.Machine

/-- The mode whose code is packed: `mode`, or `last_mode` when it is Off (43_encoder.md R214). -/
def packedMode (m : Mode) (last : OnMode) : OnMode := (Mode.on? m).getD last

/-- The display mode whose code is packed (43_encoder.md R218). -/
def packedDisp (d : Disp) (last : OnDisp) : OnDisp := (Disp.on? d).getD last

/-- The sixteen encoded fields with their values, in the order of 43_encoder.md R210 (R214 to R220). -/
def packedFields (c : Config) (d : DeviceState) (lastMode : OnMode) (lastDisp : OnDisp) : List (BodyField × Nat) :=
  [(.power, b2n d.power),
   (.mode, modeCode c (packedMode d.mode lastMode)),
   (.tempSet, clamp d.targetTemperature tempMin tempMax - tempOffset),
   (.fanA, (fanRow c d.fanMode).a),
   (.fanB, (fanRow c d.fanMode).b),
   (.quiet, b2n (fanRow c d.fanMode).quiet),
   (.turbo, b2n (fanRow c d.fanMode).turbo),
   (.vswing, swingCode c.vswing d.verticalSwing),
   (.hswing, swingCode c.hswing d.horizontalSwing),
   (.dispPower, b2n (decide (d.displayMode ≠ .off))),
   (.dispMode, dispCode c (packedDisp d.displayMode lastDisp)),
   (.dispUnit, unitCode c d.displayUnit),
   (.plasma, b2n d.plasma),
   (.sleep, b2n d.sleep),
   (.xfan, b2n d.xfan),
   (.save, b2n d.save)]

/-- The body after the protocol constants (43_encoder.md R211). -/
def constBody (c : Config) : List Byte :=
  c.constBits.foldl (fun body e => orByte body e.1 e.2) (List.replicate txBodyLen 0)

/-- The apply-now marker (an assignment, R212) or the no-change flag (R213); neither while Clearing. -/
def markBody (c : Config) (p : PendingUpdate) (body : List Byte) : List Byte :=
  match p with
  | .started => body.set c.applyIdx applyMark
  | .clearing => body
  | .none => orByte body c.ncIdx c.ncMask

/-- ENCODE (43_encoder.md R210, R226): constants, marker or flag, then the fields. -/
def encodeBody (c : Config) (d : DeviceState) (lastMode : OnMode) (lastDisp : OnDisp) (p : PendingUpdate) :
    List Byte :=
  (packedFields c d lastMode lastDisp).foldl (fun body e => put c body e.1 e.2) (markBody c p (constBody c))

/-- FRAME (43_encoder.md R221 to R223). -/
def frameOf (c : Config) (body : List Byte) : List Byte :=
  let pre := [lenTx c, cmdSet] ++ body
  [sync, sync] ++ pre ++ [chk pre]

/-- The frame a transmission sends from the state as it stands (44_sequencer.md R246). -/
def txFrame (s : State) : List Byte :=
  frameOf s.cfg (encodeBody s.cfg s.dev s.lastMode s.lastDisplayMode s.pending)

end Sys2Proof.Machine
end

