-- ==== Sys2Proof/Machine/Sequencer.lean ====
section
/-! DEFINITION. The sequencer's timed step (44_sequencer.md R240 to R249): TICK. -/

namespace Sys2Proof.Machine

/-- LINK_CHECK, the registers (44_sequencer.md R242). -/
def linkCheck (s : State) : State :=
  if linkExpired s then { s with link := .initializing, pending := .none, awaiting := false } else s

/-- Started -> Clearing -> None (44_sequencer.md R247). -/
def nextPending : PendingUpdate → PendingUpdate
  | .started => .clearing
  | .clearing => .none
  | .none => .none

/-- TRANSMIT, the registers (44_sequencer.md R247). -/
def transmit (s : State) : State :=
  { s with pending := nextPending s.pending, awaiting := true, lastTxMs := s.nowMs }

/-- Step 3 of TICK transmits (44_sequencer.md R240, R244, R245). -/
def transmits (s : State) : Bool := decide (s.link = .ready) && throttleOk s

/-- TICK (44_sequencer.md R240): stall check, link check, throttled transmission, in this order. -/
def execTick (s : State) : Result :=
  let s₁ := stallCheck s
  let dropped := linkExpired s₁
  let s₂ := linkCheck s₁
  if transmits s₂ then
    .next { transmit s₂ with
      resp := { status := .ok, txSent := true, linkDropped := dropped }
      tx := some (txFrame s₂) }
  else .next (respond { status := .ok, linkDropped := dropped } s₂)

end Sys2Proof.Machine
end

