-- ==== Sys2Proof/Machine/Dispatch.lean ====
section
/-! DEFINITION. One arm per operation of the command port (30_encoding.md R84). -/

namespace Sys2Proof.Machine

def exec (i : Instr) (s : State) : Host.Outcome State Fault Refusal :=
  match i with
  | .feed b => Sys2Proof.Machine.execFeed b s
  | .poll => Sys2Proof.Machine.execPoll s
  | .restart => Sys2Proof.Machine.execRestart s
  | .tick => Sys2Proof.Machine.execTick s
  | .reset => Sys2Proof.Machine.execReset s
  | .setMode m => Sys2Proof.Machine.execSetMode m s
  | .setTemp v => Sys2Proof.Machine.execSetTemp v s
  | .setFan f => Sys2Proof.Machine.execSetFan f s
  | .setVswing n => Sys2Proof.Machine.execSetVswing n s
  | .setHswing n => Sys2Proof.Machine.execSetHswing n s
  | .setDisplay d => Sys2Proof.Machine.execSetDisplay d s
  | .setUnit u => Sys2Proof.Machine.execSetUnit u s
  | .setPlasma x => Sys2Proof.Machine.execSetPlasma x s
  | .setSleep x => Sys2Proof.Machine.execSetSleep x s
  | .setXfan x => Sys2Proof.Machine.execSetXfan x s
  | .setSave x => Sys2Proof.Machine.execSetSave x s

end Sys2Proof.Machine
end

