-- ==== Sys2Proof/Machine/ConfigCheck.lean ====
section
/-! DEFINITION. The well-formedness conditions of a configuration (00_scope.md R7, 30_encoding.md R91), one check per
condition. A configuration that breaks one is refused (U6). -/

namespace Sys2Proof.Machine

/-- The mask is not 0, its set bits are contiguous, and the shift is its lowest set bit (30_encoding.md R91). -/
def descShapeOk (d : FieldDesc) : Bool :=
  decide (d.mask ≠ 0) && decide (d.shift < 8) &&
    decide (d.mask.toNat = (2 ^ popcount d.mask - 1) * 2 ^ d.shift)

/-- The width 30_encoding.md R90 gives the field: exact, a lower bound, or none (then at least 1). -/
def widthOk (c : Config) : BodyField → Bool
  | .power => fieldWidth c .power == 1
  | .mode => fieldWidth c .mode == 3
  | .tempSet => fieldWidth c .tempSet == 4
  | .dispMode => fieldWidth c .dispMode == 4
  | .fanA => decide (3 ≤ fieldWidth c .fanA)
  | .fanB => decide (2 ≤ fieldWidth c .fanB)
  | f => decide (1 ≤ fieldWidth c f)

/-- idx_F < 45 for every encoded field, idx_TEMP_CUR <= 252 (30_encoding.md R91). -/
def indexOk (c : Config) : BodyField → Bool
  | .tempCur => decide ((fieldDesc c .tempCur).idx ≤ 252)
  | f => decide ((fieldDesc c f).idx < txBodyLen)

/-- Every FIELD_TABLE descriptor obeys 30_encoding.md R91. -/
def fieldTableOk (c : Config) : Bool :=
  BodyField.all.all (fun f => descShapeOk (fieldDesc c f) && widthOk c f && indexOk c f)

/-- APPLY_IDX, NC_IDX and the CONST_BITS indices are body indices; NC_MASK has exactly one bit set. -/
def markersOk (c : Config) : Bool :=
  decide (c.applyIdx < txBodyLen) && decide (c.ncIdx < txBodyLen) &&
    c.constBits.all (fun e => decide (e.1 < txBodyLen)) && popcount c.ncMask == 1

/-- The codes are pairwise different and fit in `width` bits. -/
def codesOk (width : Nat) (codes : List Nat) : Bool :=
  decide codes.Nodup && codes.all (fun v => decide (v < 2 ^ width))

/-- MODE_CODE, DISP_CODE and UNIT_CODE are injective and fit their fields. -/
def enumCodesOk (c : Config) : Bool :=
  codesOk (fieldWidth c .mode) (OnMode.all.map (modeCode c)) &&
    codesOk (fieldWidth c .dispMode) (OnDisp.all.map (dispCode c)) &&
    codesOk (fieldWidth c .dispUnit) (TempUnit.all.map (unitCode c))

/-- FAN_TABLE is injective, fits FAN_A and FAN_B, and holds the three rows the source gives (00_scope.md R7). -/
def fanTableOk (c : Config) : Bool :=
  decide (Fan.all.map (fanRow c)).Nodup &&
    Fan.all.all (fun f =>
      decide ((fanRow c f).a < 2 ^ fieldWidth c .fanA) && decide ((fanRow c f).b < 2 ^ fieldWidth c .fanB)) &&
    decide (c.fanTable.low = ⟨1, 1, false, false⟩) && decide (c.fanTable.quiet = ⟨1, 1, true, false⟩) &&
    decide (c.fanTable.turbo = ⟨5, 3, false, true⟩)

/-- A swing position set: Off at index 0, FullSwing at index 1, no position twice, at most 256 elements, and an
injective code map that fits the field (00_scope.md R7, decision D37). -/
def swingSetOk (width : Nat) (set : List SwingEntry) : Bool :=
  decide ((set[0]?).map (fun e => e.pos) = some .off) && decide ((set[1]?).map (fun e => e.pos) = some .fullSwing) &&
    decide (set.map (fun e => e.pos)).Nodup && decide (set.length ≤ 256) &&
    codesOk width (set.map (fun e => e.code))

/-- T_GAP is a positive number of milliseconds, or NONE (00_scope.md R6). -/
def gapOk (c : Config) : Bool := decide (c.tGap ≠ some 0)

/-- The configuration satisfies 00_scope.md R7. -/
def configValid (c : Config) : Bool :=
  fieldTableOk c && markersOk c && enumCodesOk c && fanTableOk c && swingSetOk (fieldWidth c .vswing) c.vswing &&
    swingSetOk (fieldWidth c .hswing) c.hswing && gapOk c

end Sys2Proof.Machine
end

