-- ==== Sys2Proof/Machine/Port.lean ====
section
/-! DEFINITION. The command port: taking the next operation the host issued (30_encoding.md R80, R82), with the two
refusals the spec asks of a model (a configuration that breaks R7, U6; a host that breaks its time duties, U16), and
the read port (10_state.md R49). -/

namespace Sys2Proof.Machine

/-- An operation taken from the port: what its word stands for, and the state with the time sampled. -/
structure Fetched where
  instr : Except WordError Instr
  state : State

/-- The host may not let 2^31 ms pass without a TICK (70_reset_and_hazards.md R331, R336). -/
def tickLimit : Nat := 2 ^ 31

/-- Milliseconds since the last TICK at a command issued at `now`: the clock's advance since the last operation is
added; before the first operation there is nothing to add to (log entry 4). -/
def ageAt (s : State) (now : Time) : Nat :=
  match s.tickAgeMs with
  | none => 0
  | some age => age + (now - s.nowMs).toNat

/-- The age after the operation: a TICK starts it anew. -/
def ageAfter (i : Except WordError Instr) (age : Nat) : Nat :=
  match i with
  | .ok .tick => 0
  | _ => age

/-- Take the oldest operation from the port: sample its time, decode its word. -/
def fetch (s : State) : Host.Outcome Fetched Fault Refusal :=
  match s.port with
  | [] => if configValid s.cfg then .fault .noCommand else .refused .badConfiguration
  | cmd :: rest =>
    if configValid s.cfg then
      let age := ageAt s cmd.nowMs
      if age < tickLimit then
        let i := decode s.cfg cmd.word
        .next ⟨i, { s with port := rest, nowMs := cmd.nowMs, tickAgeMs := some (ageAfter i age) }⟩
      else .refused .hostTimeDuty
    else .refused .badConfiguration

/-- Put the command word `w` where `fetch` takes its next one, at the time already sampled when the port is empty. -/
def placeWord (w : Word) (s : State) : State :=
  match s.port with
  | [] => { s with port := [⟨s.nowMs, w⟩] }
  | cmd :: rest => { s with port := ⟨cmd.nowMs, w⟩ :: rest }

/-! ### The read port (10_state.md R49, decision D40) -/

/-- What the host may read: the thirteen DeviceState fields and link. -/
inductive ReadSel where
  | power | mode | targetTemperature | currentTemperature | fanMode | verticalSwing | horizontalSwing | displayMode
  | displayUnit | plasma | sleep | xfan | save | link
deriving DecidableEq, Repr

/-- The value the read port shows. -/
def readValue (sel : ReadSel) (s : State) : ReadValue :=
  match sel with
  | .power => .bool s.dev.power
  | .mode => .mode s.dev.mode
  | .targetTemperature => .temp s.dev.targetTemperature
  | .currentTemperature => .optTemp s.dev.currentTemperature
  | .fanMode => .fan s.dev.fanMode
  | .verticalSwing => .swing s.dev.verticalSwing
  | .horizontalSwing => .swing s.dev.horizontalSwing
  | .displayMode => .disp s.dev.displayMode
  | .displayUnit => .unit s.dev.displayUnit
  | .plasma => .bool s.dev.plasma
  | .sleep => .bool s.dev.sleep
  | .xfan => .bool s.dev.xfan
  | .save => .bool s.dev.save
  | .link => .link s.link

/-- A read of the read port: it answers a record with `value` set and is no operation, so that it has no state to
change (10_state.md R46, R49; log entry 15). -/
def readPort (sel : ReadSel) (s : State) : Response := { status := .ok, value := some (readValue sel s) }

end Sys2Proof.Machine
end

