-- ==== Sys2Proof/Machine/Step.lean ====
section
/-! DEFINITION. One step: the oldest operation on the command port is taken and runs (30_encoding.md R80, R82;
20_memory.md R69, R70). -/

namespace Sys2Proof.Machine

/-- Take the next operation; run it, or report its refused word. -/
def step (s : State) : Host.Outcome State Fault Refusal :=
  match fetch s with
  | .next f =>
    match f.instr with
    | .ok i => exec i f.state
    | .error e => refuseWord e f.state
  | .fault r => .fault r
  | .refused r => .refused r

/-- `s` with the opcode-table bits `w` of a row of `nbits` bits as the word `step` takes next (log entry 2). -/
def State.withFetchWord (s : State) (nbits w : Nat) : State := placeWord (BitVec.ofNat 16 (w % 2 ^ nbits)) s

end Sys2Proof.Machine
end

