-- ==== Sys2Proof/Machine/HostProgram.lean ====
section
/-! DEFINITION. The host's side of the command port: the operations of one tick of the host tick program
(70_reset_and_hazards.md R330) and the result of a run (R332). The machine does not depend on this file. -/

namespace Sys2Proof.Machine

/-- RX b0 ... bk: FEED and POLL for each byte (30_encoding.md R100). -/
def rxOps (bytes : List Byte) : List Instr := bytes.flatMap (fun b => [.feed b, .poll])

/-- HOST_TICK: POLL, the bytes, the control requests of the entity layer, TICK (70_reset_and_hazards.md R330). -/
def hostTickOps (bytes : List Byte) (requests : List Instr) : List Instr :=
  [.poll] ++ rxOps bytes ++ requests ++ [.tick]

/-- The commands that issue operations at one time (30_encoding.md R80). -/
def issue (now : Time) (ops : List Instr) : List Command := ops.map (fun i => ⟨now, encode i⟩)

/-- One tick of the host tick program at time `now` (70_reset_and_hazards.md R330). -/
def hostTick (now : Time) (bytes : List Byte) (requests : List Instr) : List Command :=
  issue now (hostTickOps bytes requests)

/-- What the host sees of one operation: the response record and the transmitted frame, if any. -/
abbrev Report := Response × Option (List Byte)

/-- The first `n` operations of a run: the reports in order, and how the run stands after them. -/
def runReports : Nat → State → List Report × Result
  | 0, s => ([], .next s)
  | n + 1, s =>
    match step s with
    | .next t =>
      let r := runReports n t
      ((t.resp, t.tx) :: r.1, r.2)
    | .fault r => ([], .fault r)
    | .refused r => ([], .refused r)

/-- A whole run: every operation the host has issued (70_reset_and_hazards.md R332). -/
def run (s : State) : List Report × Result := runReports s.port.length s

end Sys2Proof.Machine
end

