-- ==== Sys2Proof/Safety.lean ====
section
/-! DEFINITION. What counts as a legal state (10_state.md R51 and the ranges of R21 to R37), which commands keep the
host's time duties (70_reset_and_hazards.md R331), and the layouts the round-trip law speaks of (43_encoder.md R225),
in the terms claims use. -/

namespace Sys2Proof.Machine

/-- The invariants every reachable state satisfies (10_state.md R51), with the ranges of R25, R27, R28, R35 to R37 and
the configuration's well-formedness (00_scope.md R7). `last_mode != Off` and `last_display_mode != Off` hold by the
types OnMode and OnDisp (log entry 9). -/
structure Invariants (s : State) : Prop where
  /-- 00_scope.md R7. -/
  cfgValid : configValid s.cfg = true
  /-- rx_buf is in canonical form inside indices 0..257 (10_state.md R35). -/
  bufWf : Memory.wf s.rxBuf = true
  /-- R51: AwaitingSync implies rx_count in 0, 1, and rx_count = 1 implies rx_buf[0] = 0x7E. -/
  awaitingSync : s.rxState = .awaitingSync → s.rxCount = 0 ∨ (s.rxCount = 1 ∧ Memory.read s.rxBuf 0 = 0x7E)
  /-- R51: Receiving implies rx_buf[0] = rx_buf[1] = 0x7E. -/
  receivingSync : s.rxState = .receiving → Memory.read s.rxBuf 0 = 0x7E ∧ Memory.read s.rxBuf 1 = 0x7E
  /-- R51: in Receiving, rx_count = 2 or 3 <= rx_count < rx_need. -/
  receivingCount : s.rxState = .receiving → s.rxCount = 2 ∨ (3 ≤ s.rxCount ∧ s.rxCount < s.rxNeed)
  /-- R51: Complete implies rx_count = rx_need and 3 <= rx_need. -/
  completeCount : s.rxState = .complete → s.rxCount = s.rxNeed ∧ 3 ≤ s.rxNeed
  /-- R51: Restart implies rx_count = 0. -/
  restartCount : s.rxState = .restart → s.rxCount = 0
  /-- R37: rx_need <= RX_CAP. -/
  needCap : s.rxNeed ≤ 258
  /-- R51: 16 <= target_temperature <= 30. -/
  targetRange : 16 ≤ s.dev.targetTemperature ∧ s.dev.targetTemperature ≤ 30
  /-- R51: current_temperature absent or <= 100. -/
  currentRange : ∀ u, s.dev.currentTemperature = some u → u ≤ 100
  /-- R25: absent for the whole life of an instance with EXT_SENSOR. -/
  currentExternal : s.cfg.extSensor = true → s.dev.currentTemperature = none
  /-- R27: an element of VSWING_SET. -/
  verticalInSet : s.dev.verticalSwing ∈ s.cfg.vswing.map (fun e => e.pos)
  /-- R28: an element of HSWING_SET. -/
  horizontalInSet : s.dev.horizontalSwing ∈ s.cfg.hswing.map (fun e => e.pos)
  /-- R51: mode != Off implies power = true. -/
  modePower : s.dev.mode ≠ .off → s.dev.power = true
  /-- R51: link = Initializing implies pending = None. -/
  linkPending : s.link = .initializing → s.pending = .none
  /-- R51: awaiting = true implies link = Ready. -/
  awaitingReady : s.awaiting = true → s.link = .ready

/-- The commands keep the host's time duties (70_reset_and_hazards.md R331): after the first operation, at time `now`
and with `age` milliseconds since the last TICK, the clock never goes back and less than 2^31 ms pass without a TICK. -/
def timeDutiesKept : Option Nat → Time → List Command → Bool
  | _, _, [] => true
  | age, now, cmd :: rest =>
    let since := match age with
      | none => 0
      | some a => a + (cmd.nowMs - now).toNat
    decide (since < 2 ^ 31) &&
      timeDutiesKept (some (if cmd.word = 0x0400 then 0 else since)) cmd.nowMs rest

/-- The encoded fields: all but TEMP_CUR (30_encoding.md R90). -/
def encodedFields : List BodyField := BodyField.all.filter (fun f => decide (f ≠ .tempCur))

/-- No two encoded fields share a bit (43_encoder.md R225). -/
def fieldsDisjoint (c : Config) : Prop :=
  ∀ f ∈ encodedFields, ∀ g ∈ encodedFields, f ≠ g → (fieldDesc c f).idx = (fieldDesc c g).idx →
    (fieldDesc c f).mask &&& (fieldDesc c g).mask = 0

/-- The apply-now byte, the no-change bit and the CONST_BITS bits lie outside every encoded field's mask
(43_encoder.md R225). -/
def markersOutsideFields (c : Config) : Prop :=
  ∀ f ∈ encodedFields,
    (fieldDesc c f).idx ≠ c.applyIdx ∧
    ((fieldDesc c f).idx = c.ncIdx → (fieldDesc c f).mask &&& c.ncMask = 0) ∧
    ∀ e ∈ c.constBits, (fieldDesc c f).idx = e.1 → (fieldDesc c f).mask &&& e.2 = 0

end Sys2Proof.Machine
end

