-- ==== Sys2Proof/Certificates/Slice0/Obligations.lean ====
section
/-! DEFINITION. The statements for the provers. Every statement that quantifies over states quantifies over the
configurations too, since State.cfg is the configuration. -/

open Sys2Proof Sys2Proof.Machine

/-! ### Reset and power-up -/

/-- R320: From any state RESET puts every register of 10_state.md at its reset value, reports OK and transmits
nothing; rx_buf is all 0x00; the word is 0x0500, and a non-zero argument is refused. The reset values of DeviceState
and of most registers are the spec's own decision D29. -/
def Obligations.ResetRestoresEveryRegister : Prop :=
  (∀ s : State, exec .reset s = .next
    { cfg := s.cfg, port := s.port, nowMs := s.nowMs, tickAgeMs := s.tickAgeMs
      dev :=
        { power := false, mode := .off, targetTemperature := 16, currentTemperature := none, fanMode := .auto
          verticalSwing := .off, horizontalSwing := .off, displayMode := .off, displayUnit := .celsius
          plasma := false, sleep := false, xfan := false, save := false }
      lastMode := .auto, lastDisplayMode := .auto
      rxState := .awaitingSync, rxBuf := [], rxCount := 0, rxNeed := 0, lastByteMs := 0
      link := .initializing, pending := .none, awaiting := false, lastValidMs := 0, lastTxMs := 0
      resp := { status := .ok }, tx := none }) ∧
  (∀ i, Memory.read [] i = 0) ∧
  encode .reset = 0x0500 ∧
  ∀ (c : Config) (arg : Byte), arg ≠ 0 → decode c ((0x05 : Byte) ++ arg) = .error .illegalOperand

/-- R321: The power-up state of a block with configuration c is the state RESET gives from any state with that
configuration (the spec's decision D29). That no operation waits, no time has been sampled and the outputs are those
of RESET is the model's choice (log entries 2, 3, 4, 5). -/
def Obligations.PowerUpIsTheStateResetGives : Prop :=
  ∀ (c : Config) (s : State), s.cfg = c →
    ∃ t, exec .reset s = .next t ∧
      { t with port := [], nowMs := 0, tickAgeMs := none } = State.resetWith c

/-! ### Receiver -/

/-- R122, R123: FEED in AwaitingSync: with rx_count = 0 a byte 0x7E becomes the first sync byte and any other byte is
discarded; with rx_count = 1 a second 0x7E anchors the frame and any other byte empties the receiver. Everything else
but last_byte_ms and the outputs is unchanged. That the byte that breaks a pair is discarded is the spec's own
decision D3. -/
def Obligations.FeedSeeksTwoSyncBytes : Prop :=
  (∀ (b : Byte) (s : State), s.rxState = .awaitingSync → s.rxCount = 0 →
    exec (.feed b) s = .next
      { s with
        rxBuf := if b = 0x7E then Memory.write s.rxBuf 0 0x7E else s.rxBuf
        rxCount := if b = 0x7E then 1 else 0
        lastByteMs := s.nowMs, resp := { status := .ok }, tx := none }) ∧
  (∀ (b : Byte) (s : State), s.rxState = .awaitingSync → s.rxCount = 1 →
    exec (.feed b) s = .next
      (if b = 0x7E then
        { s with
          rxState := .receiving, rxBuf := Memory.write s.rxBuf 1 0x7E, rxCount := 2
          lastByteMs := s.nowMs, resp := { status := .ok }, tx := none }
      else
        { s with rxCount := 0, lastByteMs := s.nowMs, resp := { status := .ok }, tx := none }))

/-- R124: FEED in Receiving with rx_count = 2 stores the byte at rx_buf[2] and takes it as LEN whatever its value:
rx_need = n(b), between 3 and 258. When rx_need = 3 the frame is complete at once and the POLL after it reports
TOO_SHORT. Rests on the spec's own decisions D1 and D2. -/
def Obligations.FeedTakesLengthByte : Prop :=
  ∀ (b : Byte) (s : State) (n : Nat), s.rxState = .receiving → s.rxCount = 2 →
    n = (match s.cfg.lenConv with | .afterLen => b.toNat + 3 | .total => max b.toNat 3) →
    3 ≤ n ∧ n ≤ 258 ∧
    ∃ t, exec (.feed b) s = .next t ∧
      t = { s with
        rxState := if n = 3 then .complete else .receiving
        rxBuf := Memory.write s.rxBuf 2 b, rxCount := 3, rxNeed := n
        lastByteMs := s.nowMs, resp := { status := .ok }, tx := none } ∧
      (n = 3 → ∃ u, exec .poll t = .next u ∧ u.resp = { status := .tooShort, event := .complete })

/-- R125: FEED in Receiving with 3 <= rx_count < rx_need appends the byte at rx_buf[rx_count], 0x7E included, and the
frame is Complete when rx_count reaches rx_need. The premises are parts of the invariants of
EveryStepKeepsTheInvariant. That the index stays inside the buffer is the spec's own inference in rule R125. -/
def Obligations.FeedAppendsFrameByte : Prop :=
  ∀ (b : Byte) (s : State), s.rxState = .receiving → 3 ≤ s.rxCount → s.rxCount < s.rxNeed → s.rxNeed ≤ 258 →
    exec (.feed b) s = .next
      { s with
        rxState := if s.rxCount + 1 = s.rxNeed then .complete else .receiving
        rxBuf := Memory.write s.rxBuf s.rxCount b, rxCount := s.rxCount + 1
        lastByteMs := s.nowMs, resp := { status := .ok }, tx := none }

/-- R121 to R126: When FEED answers, every byte of rx_buf but the one it stores reads as before: index 0 for a first
sync byte, index 1 for a second one, index rx_count in Receiving. The canonical form of the buffer (a modelling
choice, log entry 6) is kept. -/
def Obligations.FeedStoresAtMostOneByte : Prop :=
  ∀ (b : Byte) (s t : State), Memory.wf s.rxBuf = true → exec (.feed b) s = .next t →
    Memory.wf t.rxBuf = true ∧
    ∀ i, Memory.read t.rxBuf i =
      if (s.rxState = .awaitingSync ∧ s.rxCount = 0 ∧ b = 0x7E ∧ i = 0) ∨
         (s.rxState = .awaitingSync ∧ s.rxCount ≠ 0 ∧ b = 0x7E ∧ i = 1) ∨
         (s.rxState = .receiving ∧ i = s.rxCount)
      then b else Memory.read s.rxBuf i

/-- R128: POLL in Restart reports the event Restart with FRAMING_STALL and enters AwaitingSync, and the next POLL
reports None; a TICK that enters Restart has emptied the buffer; POLL in AwaitingSync or Receiving reports None and
changes nothing. -/
def Obligations.PollReportsRestartOnce : Prop :=
  (∀ s : State, s.rxState = .restart →
    ∃ t, exec .poll s = .next t ∧
      t = { s with rxState := .awaitingSync, resp := { status := .framingStall, event := .restart }, tx := none } ∧
      ∃ u, exec .poll t = .next u ∧ u.resp = { status := .ok }) ∧
  (∀ s t : State, exec .tick s = .next t → s.rxState ≠ .restart → t.rxState = .restart →
    t.rxCount = 0 ∧ t.rxNeed = 0) ∧
  (∀ s : State, s.rxState = .awaitingSync ∨ s.rxState = .receiving →
    exec .poll s = .next { s with resp := { status := .ok }, tx := none })

/-- R127, R157: POLL in Complete on a frame that VERIFY rejects empties the receiver, reports the reason with the
event Complete, and changes no other register. The frame rule is the spec's own inference (R157, from R127). -/
def Obligations.PollDropsRejectedFrame : Prop :=
  ∀ (s : State) (r : Status), s.rxState = .complete → s.rxNeed ≤ 258 →
    verify s.cfg ((List.range s.rxNeed).map (Memory.read s.rxBuf)) = r → r ≠ .ok →
    exec .poll s = .next
      { s with
        rxState := .awaitingSync, rxCount := 0, rxNeed := 0
        resp := { status := r, event := .complete }, tx := none }

/-- R127, R241, R186: POLL in Complete on a frame VERIFY accepts decodes the body f[4 .. n-2], sets link = Ready,
last_valid_ms = now and awaiting = false, empties the receiver, and reports the event Complete with the warnings and
with changed exactly when one of the thirteen observable fields differs. Clearing awaiting and the meaning of changed
are the spec's own decisions D23 and D35. -/
def Obligations.PollTakesAcceptedReport : Prop :=
  ∀ (s : State) (f : List Byte) (d : Decoded), s.rxState = .complete → s.rxNeed ≤ 258 →
    f = (List.range s.rxNeed).map (Memory.read s.rxBuf) → verify s.cfg f = .ok →
    d = decodeFrom s.cfg ((f.drop 4).take (s.rxNeed - 5))
      { dev := s.dev, lastMode := s.lastMode, lastDisplayMode := s.lastDisplayMode, warnings := [] } →
    exec .poll s = .next
      { s with
        rxState := .awaitingSync, rxCount := 0, rxNeed := 0
        dev := d.dev, lastMode := d.lastMode, lastDisplayMode := d.lastDisplayMode
        link := .ready, lastValidMs := s.nowMs, awaiting := false
        resp := { status := .ok, event := .complete, changed := decide (d.dev ≠ s.dev), warnings := d.warnings }
        tx := none }

/-- R126, R330: From every state, if POLL answers and then FEED answers, the FEED reports OK. Rests on the spec's own
decisions D5 and D30. -/
def Obligations.PollMakesRoomForFeed : Prop :=
  ∀ (b : Byte) (s t u : State), exec .poll s = .next t → exec (.feed b) t = .next u → u.resp = { status := .ok }

/-- R129: RESTART (word 0x0300, argument 0) sets rx_state = AwaitingSync, rx_count = 0, rx_need = 0 from every state,
reports OK and changes nothing else; the next POLL reports None. The corner cases are the spec's own decision D6. -/
def Obligations.RestartDiscardsTheFrame : Prop :=
  encode .restart = 0x0300 ∧
  (∀ (c : Config) (arg : Byte), arg ≠ 0 → decode c ((0x03 : Byte) ++ arg) = .error .illegalOperand) ∧
  ∀ s : State, ∃ t, exec .restart s = .next t ∧
    t = { s with
      rxState := .awaitingSync, rxCount := 0, rxNeed := 0, resp := { status := .ok }, tx := none } ∧
    ∃ u, exec .poll t = .next u ∧ u.resp = { status := .ok }

/-! ### Validator -/

/-- R152, R153, R154: A frame shorter than 5 bytes is TOO_SHORT; else a frame whose fourth byte is not 0x31 is
UNKNOWN_COMMAND; else a frame whose bytes f[2 .. n-2] do not sum modulo 256 to its last byte is BAD_CHECKSUM; a frame
that passes the three is BODY_TOO_SHORT or OK. -/
def Obligations.VerifyChecksLengthCommandChecksum : Prop :=
  ∀ (c : Config) (f : List Byte) (sum : Nat),
    sum = ((List.range (f.length - 3)).map (fun k => (f.getD (k + 2) 0).toNat)).sum →
    (f.length < 5 → verify c f = .tooShort) ∧
    (5 ≤ f.length → f.getD 3 0 ≠ 0x31 → verify c f = .unknownCommand) ∧
    (5 ≤ f.length → f.getD 3 0 = 0x31 → sum % 256 ≠ (f.getD (f.length - 1) 0).toNat →
      verify c f = .badChecksum) ∧
    (5 ≤ f.length → f.getD 3 0 = 0x31 → sum % 256 = (f.getD (f.length - 1) 0).toNat →
      verify c f = .bodyTooShort ∨ verify c f = .ok)

/-- R155, R91: Of the frames that pass the first three checks, exactly those with a field whose index is not below n -
5 are BODY_TOO_SHORT; in an accepted frame every field's index is inside the body f[4 .. n-2]; VERIFY gives one of its
five codes. Rests on the spec's own decision D8. -/
def Obligations.VerifyChecksBodyLengthLast : Prop :=
  ∀ (c : Config) (f : List Byte),
    (verify c f = .bodyTooShort ∨ verify c f = .ok →
      (verify c f = .bodyTooShort ↔ ∃ g : BodyField, f.length - 5 ≤ (fieldDesc c g).idx)) ∧
    (verify c f = .ok →
      ∀ g : BodyField, (fieldDesc c g).idx < ((f.drop 4).take (f.length - 5)).length) ∧
    verify c f ∈ [Status.ok, .tooShort, .unknownCommand, .badChecksum, .bodyTooShort]

/-- R338: A completed frame equal to a frame the block transmits from some state is rejected as UNKNOWN_COMMAND, with
no change outside the receiver. This is the spec's own inference (R338, from R159). -/
def Obligations.EchoIsRejected : Prop :=
  ∀ s u : State, s.rxState = .complete → s.rxNeed = 50 →
    (List.range 50).map (Memory.read s.rxBuf) = txFrame u →
    exec .poll s = .next
      { s with
        rxState := .awaitingSync, rxCount := 0, rxNeed := 0
        resp := { status := .unknownCommand, event := .complete }, tx := none }

/-! ### Decoder -/

/-- R92: Under a valid configuration, for a body that holds idx_F, field(body, F) = (body[idx_F] & mask_F) >> shift_F,
and it is below 2 to the power w_F. -/
def Obligations.FieldValueInRange : Prop :=
  ∀ (c : Config) (body : List Byte) (g : BodyField), configValid c = true →
    (fieldDesc c g).idx < body.length →
    field c body g = ((body.getD (fieldDesc c g).idx 0).toNat &&& (fieldDesc c g).mask.toNat) >>> (fieldDesc c g).shift ∧
    field c body g < 2 ^ fieldWidth c g

/-- R172, R173, R174: After a whole DECODE, power says whether the power field is not 0; a known mode code becomes
last_mode, and mode when power is set, else Off; an unknown code gives mode = Off, keeps last_mode and logs
UNKNOWN_FIELD_VALUE for MODE. Rests on the spec's own decisions D12 and D13. -/
def Obligations.DecodeFusesPowerAndMode : Prop :=
  ∀ (c : Config) (body : List Byte) (d r : Decoded), configValid c = true → d.warnings = [] →
    r = decodeFrom c body d →
    r.dev.power = decide (field c body .power ≠ 0) ∧
    (∀ m, modeCode c m = field c body .mode →
      r.lastMode = m ∧ r.dev.mode = (if field c body .power ≠ 0 then OnMode.toMode m else .off) ∧
      ⟨.unknownFieldValue, .mode⟩ ∉ r.warnings) ∧
    ((∀ m, modeCode c m ≠ field c body .mode) →
      r.lastMode = d.lastMode ∧ r.dev.mode = .off ∧ ⟨.unknownFieldValue, .mode⟩ ∈ r.warnings)

/-- R175, R176, R177: After a whole DECODE, target_temperature is the field plus 16 when that is at most 30, else it
is kept with a warning; current_temperature is the field minus the bias when that is at most 100, else it is kept with
a warning; with an external sensor it is kept and no warning comes from it. Rests on the spec's own decisions D15 and
D16. -/
def Obligations.DecodeChecksTemperatures : Prop :=
  ∀ (c : Config) (body : List Byte) (d r : Decoded), d.warnings = [] → r = decodeFrom c body d →
    (field c body .tempSet + 16 ≤ 30 →
      r.dev.targetTemperature = field c body .tempSet + 16 ∧ ⟨.outOfRangeTemperature, .tempSet⟩ ∉ r.warnings) ∧
    (30 < field c body .tempSet + 16 →
      r.dev.targetTemperature = d.dev.targetTemperature ∧ ⟨.outOfRangeTemperature, .tempSet⟩ ∈ r.warnings) ∧
    (c.extSensor = false → (field c body .tempCur : Int) - c.curTempBias ≤ 100 →
      r.dev.currentTemperature = some ((field c body .tempCur : Int) - c.curTempBias) ∧
      ⟨.outOfRangeTemperature, .tempCur⟩ ∉ r.warnings) ∧
    (c.extSensor = false → 100 < (field c body .tempCur : Int) - c.curTempBias →
      r.dev.currentTemperature = d.dev.currentTemperature ∧ ⟨.outOfRangeTemperature, .tempCur⟩ ∈ r.warnings) ∧
    (c.extSensor = true →
      r.dev.currentTemperature = d.dev.currentTemperature ∧ ⟨.outOfRangeTemperature, .tempCur⟩ ∉ r.warnings)

/-- R178, R179: After a whole DECODE, fan_mode is the Fan whose FAN_TABLE row equals (FAN_A, FAN_B, QUIET, TURBO) in
all four parts, and no warning is logged for FAN_A; where no row is equal it is Auto with one; (1,1,false,false) is
Low, (1,1,true,false) Quiet, (5,3,false,true) Turbo. The exact match is the spec's own decision D38, and the single
warning its own inference. -/
def Obligations.DecodeMatchesFanTable : Prop :=
  ∀ (c : Config) (body : List Byte) (d r : Decoded) (row : FanRow), configValid c = true → d.warnings = [] →
    r = decodeFrom c body d →
    row = ⟨field c body .fanA, field c body .fanB, decide (field c body .quiet ≠ 0),
      decide (field c body .turbo ≠ 0)⟩ →
    (∀ f, fanRow c f = row → r.dev.fanMode = f ∧ ⟨.unknownFieldValue, .fanA⟩ ∉ r.warnings) ∧
    ((∀ f, fanRow c f ≠ row) → r.dev.fanMode = .auto ∧ ⟨.unknownFieldValue, .fanA⟩ ∈ r.warnings) ∧
    (row = ⟨1, 1, false, false⟩ → r.dev.fanMode = .low) ∧
    (row = ⟨1, 1, true, false⟩ → r.dev.fanMode = .quiet) ∧
    (row = ⟨5, 3, false, true⟩ → r.dev.fanMode = .turbo)

/-- R180, R181: After a whole DECODE under a valid configuration, each swing field is the position whose code the
field holds, with no warning, or Off with an UNKNOWN_FIELD_VALUE warning where no position has that code. -/
def Obligations.DecodeLooksSwingUp : Prop :=
  ∀ (c : Config) (body : List Byte) (d r : Decoded), configValid c = true → d.warnings = [] →
    r = decodeFrom c body d →
    (∀ e ∈ c.vswing, e.code = field c body .vswing →
      r.dev.verticalSwing = e.pos ∧ ⟨.unknownFieldValue, .vswing⟩ ∉ r.warnings) ∧
    ((∀ e ∈ c.vswing, e.code ≠ field c body .vswing) →
      r.dev.verticalSwing = .off ∧ ⟨.unknownFieldValue, .vswing⟩ ∈ r.warnings) ∧
    (∀ e ∈ c.hswing, e.code = field c body .hswing →
      r.dev.horizontalSwing = e.pos ∧ ⟨.unknownFieldValue, .hswing⟩ ∉ r.warnings) ∧
    ((∀ e ∈ c.hswing, e.code ≠ field c body .hswing) →
      r.dev.horizontalSwing = .off ∧ ⟨.unknownFieldValue, .hswing⟩ ∈ r.warnings)

/-- R182, R183, R184: After a whole DECODE, a known display code becomes last_display_mode, and display_mode when
DISP_POWER is not 0, else Off; an unknown one gives Off with a warning; a known unit code gives that unit, an unknown
one Celsius with a warning; each toggle says whether its field is not 0. Rests on the spec's own decisions D11, D14
and D17. -/
def Obligations.DecodeDisplayUnitAndToggles : Prop :=
  ∀ (c : Config) (body : List Byte) (d r : Decoded), configValid c = true → d.warnings = [] →
    r = decodeFrom c body d →
    (∀ m, dispCode c m = field c body .dispMode →
      r.lastDisplayMode = m ∧
      r.dev.displayMode = (if field c body .dispPower ≠ 0 then OnDisp.toDisp m else .off) ∧
      ⟨.unknownFieldValue, .dispMode⟩ ∉ r.warnings) ∧
    ((∀ m, dispCode c m ≠ field c body .dispMode) →
      r.lastDisplayMode = d.lastDisplayMode ∧ r.dev.displayMode = .off ∧
      ⟨.unknownFieldValue, .dispMode⟩ ∈ r.warnings) ∧
    (∀ u, unitCode c u = field c body .dispUnit →
      r.dev.displayUnit = u ∧ ⟨.unknownFieldValue, .dispUnit⟩ ∉ r.warnings) ∧
    ((∀ u, unitCode c u ≠ field c body .dispUnit) →
      r.dev.displayUnit = .celsius ∧ ⟨.unknownFieldValue, .dispUnit⟩ ∈ r.warnings) ∧
    r.dev.plasma = decide (field c body .plasma ≠ 0) ∧ r.dev.sleep = decide (field c body .sleep ≠ 0) ∧
    r.dev.xfan = decide (field c body .xfan ≠ 0) ∧ r.dev.save = decide (field c body .save ≠ 0)

/-- R187: The warnings a DECODE appends are a sublist of: MODE, TEMP_SET, TEMP_CUR, FAN_A, VSWING, HSWING, DISP_MODE,
DISP_UNIT, each with its kind. This is the spec's own inference (R187). -/
def Obligations.DecodeWarnsInFieldOrder : Prop :=
  ∀ (c : Config) (body : List Byte) (d : Decoded),
    ∃ l, (decodeFrom c body d).warnings = d.warnings ++ l ∧ l.length ≤ 8 ∧
      List.Sublist l
        [⟨.unknownFieldValue, .mode⟩, ⟨.outOfRangeTemperature, .tempSet⟩, ⟨.outOfRangeTemperature, .tempCur⟩,
         ⟨.unknownFieldValue, .fanA⟩, ⟨.unknownFieldValue, .vswing⟩, ⟨.unknownFieldValue, .hswing⟩,
         ⟨.unknownFieldValue, .dispMode⟩, ⟨.unknownFieldValue, .dispUnit⟩]

/-- R188: Two DECODEs of one body from registers that agree on target_temperature, current_temperature, last_mode,
last_display_mode and the warnings give equal results: every other observable field is overwritten. This is the spec's
own inference (R188). -/
def Obligations.DecodeOverwritesAllButRetainedFields : Prop :=
  ∀ (c : Config) (body : List Byte) (d e : Decoded),
    d.dev.targetTemperature = e.dev.targetTemperature → d.dev.currentTemperature = e.dev.currentTemperature →
    d.lastMode = e.lastMode → d.lastDisplayMode = e.lastDisplayMode → d.warnings = e.warnings →
    decodeFrom c body d = decodeFrom c body e

/-- R189, R214: After DECODE of a body with the power field 0 and a known mode code, power is false, mode is Off and
last_mode is the mode of that code. Every body encoded with that last_mode from any DeviceState whose mode is Off, the
decoded one or a later one and whatever its other fields hold, carries that mode code, and its power field says
whether that DeviceState has the power on. The layouts are those of the round-trip law. Rests on the spec's own
inferences D13 and D19. -/
def Obligations.PoweredOffReportKeepsTheModeCode : Prop :=
  ∀ (c : Config) (body : List Byte) (d r : Decoded) (m : OnMode) (p : PendingUpdate), configValid c = true →
    fieldsDisjoint c → markersOutsideFields c → r = decodeFrom c body d →
    field c body .power = 0 → modeCode c m = field c body .mode →
    r.dev.power = false ∧ r.dev.mode = .off ∧ r.lastMode = m ∧
    ∀ (e : DeviceState) (ld : OnDisp), e.mode = .off →
      field c (encodeBody c e m ld p) .mode = modeCode c m ∧
      field c (encodeBody c e m ld p) .power = (if e.power then 1 else 0)

/-! ### Encoder -/

/-- R67, R222, R223: FRAME of a 45-byte body has 50 bytes: 0x7E, 0x7E, LEN (0x2F or 0x32 by the length convention),
0x01, the body, and the sum of bytes 2 .. 48 modulo 256. The LEN values are the spec's own decision D1. -/
def Obligations.OutboundFrameLayout : Prop :=
  ∀ (c : Config) (body : List Byte) (t : List Byte), body.length = 45 → t = frameOf c body →
    t.length = 50 ∧ t.getD 0 0 = 0x7E ∧ t.getD 1 0 = 0x7E ∧
    t.getD 2 0 = (match c.lenConv with | .afterLen => 0x2F | .total => 0x32) ∧ t.getD 3 0 = 0x01 ∧
    (∀ i, i < 45 → t.getD (i + 4) 0 = body.getD i 0) ∧
    (t.getD 49 0).toNat = ((List.range 47).map (fun k => (t.getD (k + 2) 0).toNat)).sum % 256

/-- R98, R211, R212, R213, R224, R226: The bits of 0xAF are set at APPLY_IDX of a Started body and the bits of NC_MASK
at NC_IDX of a None body. The bits of every CONST_BITS entry are set in every body, but for those at APPLY_IDX of a
Started body. Bits that no encoded field, no constant (at APPLY_IDX of a Started body the constants are overwritten),
no marker and no flag of that body has are 0. Where the markers lie outside the fields the Started byte is exactly
0xAF; where moreover nothing else is at a marker's place, the bodies that do not carry it have it clear. Rests on the
spec's own decisions D18 and D20. -/
def Obligations.MarkersFollowPending : Prop :=
  ∀ (c : Config) (d : DeviceState) (lm : OnMode) (ld : OnDisp) (body : PendingUpdate → List Byte),
    configValid c = true → body = encodeBody c d lm ld →
    (body .started).getD c.applyIdx 0 &&& 0xAF = 0xAF ∧
    (body .none).getD c.ncIdx 0 &&& c.ncMask = c.ncMask ∧
    (∀ (p : PendingUpdate), ∀ e ∈ c.constBits, p ≠ .started ∨ e.1 ≠ c.applyIdx →
      (body p).getD e.1 0 &&& e.2 = e.2) ∧
    (∀ (p : PendingUpdate) (j : Nat) (m : Byte),
      (∀ f ∈ encodedFields, (fieldDesc c f).idx = j → (fieldDesc c f).mask &&& m = 0) →
      (p ≠ .started ∨ j ≠ c.applyIdx → ∀ e ∈ c.constBits, e.1 = j → e.2 &&& m = 0) →
      (p = .started → j = c.applyIdx → 0xAF &&& m = 0) →
      (p = .none → j = c.ncIdx → c.ncMask &&& m = 0) →
      (body p).getD j 0 &&& m = 0) ∧
    (markersOutsideFields c →
      (body .started).getD c.applyIdx 0 = 0xAF ∧
      ((∀ e ∈ c.constBits, e.1 = c.ncIdx → e.2 &&& c.ncMask = 0) →
        (body .clearing).getD c.ncIdx 0 &&& c.ncMask = 0 ∧
        (c.ncIdx ≠ c.applyIdx → (body .started).getD c.ncIdx 0 &&& c.ncMask = 0)) ∧
      ((∀ e ∈ c.constBits, e.1 ≠ c.applyIdx) →
        (body .clearing).getD c.applyIdx 0 = 0 ∧
        (c.ncIdx ≠ c.applyIdx → (body .none).getD c.applyIdx 0 = 0)))

/-- R224: Two states that differ only in current_temperature encode to the same body. -/
def Obligations.EncodeIgnoresCurrentTemperature : Prop :=
  ∀ (c : Config) (d : DeviceState) (lm : OnMode) (ld : OnDisp) (p : PendingUpdate) (u : Option Int),
    encodeBody c { d with currentTemperature := u } lm ld p = encodeBody c d lm ld p

/-- R215, R227: For every state, ENCODE gives what it gives with the target temperature clamped to 16..30, the value
it packs into TEMP_SET is the clamped one minus 16, and it is at most 14; where no two fields overlap and the markers
lie outside the fields, that value reads back from the body. -/
def Obligations.EncodeClampsTargetTemperature : Prop :=
  ∀ (c : Config) (d : DeviceState) (lm : OnMode) (ld : OnDisp) (p : PendingUpdate),
    encodeBody c d lm ld p =
      encodeBody c { d with targetTemperature := min (max d.targetTemperature 16) 30 } lm ld p ∧
    (BodyField.tempSet, min (max d.targetTemperature 16) 30 - 16) ∈ packedFields c d lm ld ∧
    min (max d.targetTemperature 16) 30 - 16 ≤ 14 ∧
    (configValid c = true → fieldsDisjoint c → markersOutsideFields c →
      field c (encodeBody c d lm ld p) .tempSet = min (max d.targetTemperature 16) 30 - 16)

/-- R225, its premise corrected: For every valid configuration with non-overlapping fields, markers outside the fields
and REPORT_MIN_BODY <= 45, every state with mode != Off exactly when power is true and swing positions in their sets,
and every pending value: DECODE of the encoded body, run from any registers, gives the state's values for all fields
but current_temperature (the target clamped), last_mode and last_display_mode equal to the packed modes, and no new
warning but one for TEMP_CUR. It is the spec's own round-trip law (R225, an inference of the spec) with its premise
corrected. -/
def Obligations.DecodeOfEncodeRestoresDeviceState : Prop :=
  ∀ (c : Config) (d : DeviceState) (lm : OnMode) (ld : OnDisp) (p : PendingUpdate) (d₀ r : Decoded),
    configValid c = true → fieldsDisjoint c → markersOutsideFields c → reportMinBody c ≤ 45 →
    (d.mode ≠ .off ↔ d.power = true) →
    d.verticalSwing ∈ c.vswing.map (fun e => e.pos) → d.horizontalSwing ∈ c.hswing.map (fun e => e.pos) →
    r = decodeFrom c (encodeBody c d lm ld p) d₀ →
    r.dev =
      { d with
        targetTemperature := min (max d.targetTemperature 16) 30
        currentTemperature := r.dev.currentTemperature } ∧
    r.lastMode = packedMode d.mode lm ∧ r.lastDisplayMode = packedDisp d.displayMode ld ∧
    ∀ w ∈ r.warnings, w ∈ d₀.warnings ∨ w.field = .tempCur

/-- R225 as written: The round-trip law with the spec's own premise, mode != Off implies power = true. It is expected
to fail: a state with power = true and mode = Off (which decision D12 says a report with an unknown mode code gives)
packs last_mode with the power bit set, and that decodes to last_mode, not Off. -/
def Obligations.RoundTripAsWrittenInR225 : Prop :=
  ∀ (c : Config) (d : DeviceState) (lm : OnMode) (ld : OnDisp) (p : PendingUpdate) (d₀ r : Decoded),
    configValid c = true → fieldsDisjoint c → markersOutsideFields c → reportMinBody c ≤ 45 →
    (d.mode ≠ .off → d.power = true) →
    d.verticalSwing ∈ c.vswing.map (fun e => e.pos) → d.horizontalSwing ∈ c.hswing.map (fun e => e.pos) →
    r = decodeFrom c (encodeBody c d lm ld p) d₀ →
    r.dev =
      { d with
        targetTemperature := min (max d.targetTemperature 16) 30
        currentTemperature := r.dev.currentTemperature } ∧
    r.lastMode = packedMode d.mode lm ∧ r.lastDisplayMode = packedDisp d.displayMode ld ∧
    ∀ w ∈ r.warnings, w ∈ d₀.warnings ∨ w.field = .tempCur

/-! ### Sequencer -/

/-- R130: TICK answers from every state; it enters Restart and empties the receiver exactly when T_GAP is not NONE, a
partial frame is held, and more than T_GAP ms have passed since the last accepted byte (strictly); else it leaves the
receiver as it is. That the check runs in TICK only is the spec's own decision D6. -/
def Obligations.TickAbandonsStalledFrame : Prop :=
  ∀ (s : State) (stall : Prop),
    (stall ↔ ∃ gap, s.cfg.tGap = some gap ∧
      ((s.rxState = .awaitingSync ∧ s.rxCount = 1) ∨ s.rxState = .receiving) ∧
      gap < (s.nowMs - s.lastByteMs).toNat) →
    ∃ t, exec .tick s = .next t ∧ t.rxBuf = s.rxBuf ∧ t.lastByteMs = s.lastByteMs ∧
      (stall → t.rxState = .restart ∧ t.rxCount = 0 ∧ t.rxNeed = 0) ∧
      (¬stall → t.rxState = s.rxState ∧ t.rxCount = s.rxCount ∧ t.rxNeed = s.rxNeed)

/-- R242: TICK with link = Ready and more than 1000 ms since the last accepted report sets link = Initializing,
pending = None, awaiting = false, reports link_dropped and does not transmit; otherwise link is unchanged and
link_dropped is false. Clearing pending and awaiting is the spec's own decision D24, D25. -/
def Obligations.TickDropsSilentLink : Prop :=
  ∀ s : State, ∃ t, exec .tick s = .next t ∧
    (s.link = .ready ∧ 1000 < (s.nowMs - s.lastValidMs).toNat →
      t = { s with
        rxState := t.rxState, rxCount := t.rxCount, rxNeed := t.rxNeed
        link := .initializing, pending := .none, awaiting := false
        resp := { status := .ok, linkDropped := true }, tx := none }) ∧
    (¬(s.link = .ready ∧ 1000 < (s.nowMs - s.lastValidMs).toNat) →
      t.link = s.link ∧ t.resp.linkDropped = false)

/-- R247: While Ready, with the link alive and no response awaited or T_TX_MIN elapsed, TICK transmits FRAME(ENCODE(S,
pending)) of the state as it stands, advances pending Started to Clearing to None, sets awaiting and stamps
last_tx_ms; but for the stall check nothing else changes. When it may transmit is the spec's own decision D21, D22. -/
def Obligations.TickTransmitsWhenAllowed : Prop :=
  ∀ s : State, s.link = .ready → (s.nowMs - s.lastValidMs).toNat ≤ 1000 →
    (s.awaiting = false ∨ s.cfg.tTxMin ≤ (s.nowMs - s.lastTxMs).toNat) →
    ∃ t, exec .tick s = .next t ∧
      t = { s with
        rxState := t.rxState, rxCount := t.rxCount, rxNeed := t.rxNeed
        pending := (match s.pending with | .started => .clearing | .clearing => .none | .none => .none)
        awaiting := true, lastTxMs := s.nowMs
        resp := { status := .ok, txSent := true }
        tx := some (frameOf s.cfg (encodeBody s.cfg s.dev s.lastMode s.lastDisplayMode s.pending)) }

/-- R244, R245, R247: While Initializing, or while Ready with the link alive, a response awaited and T_TX_MIN not
elapsed, TICK transmits nothing and, but for the stall check, changes nothing. Rests on the spec's own decisions D21
and D22. -/
def Obligations.TickHoldsBackOtherwise : Prop :=
  ∀ s : State,
    (s.link = .initializing ∨
      (s.link = .ready ∧ (s.nowMs - s.lastValidMs).toNat ≤ 1000 ∧ s.awaiting = true ∧
        (s.nowMs - s.lastTxMs).toNat < s.cfg.tTxMin)) →
    ∃ t, exec .tick s = .next t ∧
      t = { s with
        rxState := t.rxState, rxCount := t.rxCount, rxNeed := t.rxNeed, resp := { status := .ok }, tx := none }

/-- R248: Of three TICKs that transmit, the first from pending = Started and each next from the pending value the
previous one left, the first sends the Started frame of its state, the second the Clearing frame, the third the None
frame, and pending ends at None. This is the spec's own inference (R248). -/
def Obligations.PendingUpdateSequence : Prop :=
  ∀ s₁ s₂ s₃ t₁ t₂ t₃ : State,
    exec .tick s₁ = .next t₁ → exec .tick s₂ = .next t₂ → exec .tick s₃ = .next t₃ →
    t₁.tx ≠ none → t₂.tx ≠ none → t₃.tx ≠ none →
    s₁.pending = .started → s₂.pending = t₁.pending → s₃.pending = t₂.pending →
    t₁.tx = some (frameOf s₁.cfg (encodeBody s₁.cfg s₁.dev s₁.lastMode s₁.lastDisplayMode .started)) ∧
    t₂.tx = some (frameOf s₂.cfg (encodeBody s₂.cfg s₂.dev s₂.lastMode s₂.lastDisplayMode .clearing)) ∧
    t₃.tx = some (frameOf s₃.cfg (encodeBody s₃.cfg s₃.dev s₃.lastMode s₃.lastDisplayMode .none)) ∧
    t₁.pending = .clearing ∧ t₂.pending = .none ∧ t₃.pending = .none

/-- R244: If a step answers with a frame on the transmit port, the operation was TICK (word 0x0400) and link is Ready
before and after. The gating is the spec's own decision D21. -/
def Obligations.OnlyAReadyTickTransmits : Prop :=
  ∀ s t : State, step s = .next t → t.tx ≠ none →
    s.link = .ready ∧ t.link = .ready ∧ ∃ cmd rest, s.port = cmd :: rest ∧ cmd.word = 0x0400

/-- R47, R86: After every step the transmit port holds a frame exactly when the response says tx_sent, and that frame
has 50 bytes. Rests on the spec's own decision D39. -/
def Obligations.StrobeEqualsTxSent : Prop :=
  ∀ s t : State, step s = .next t →
    (t.tx.isSome = t.resp.txSent) ∧ ∀ f, t.tx = some f → f.length = 50

/-- R243: A step whose response is an accepted report is a POLL and leaves link = Ready with last_valid_ms renewed; a
TICK while Ready with more than 1000 ms elapsed leaves Initializing; RESET leaves Initializing; and link changes in no
other step. This is the spec's own inference (R243). -/
def Obligations.LinkTransitions : Prop :=
  ∀ (s t : State) (cmd : Command) (rest : List Command), step s = .next t → s.port = cmd :: rest →
    (t.resp.event = .complete → t.resp.status = .ok →
      cmd.word = 0x0200 ∧ t.link = .ready ∧ t.lastValidMs = cmd.nowMs) ∧
    (cmd.word = 0x0400 → s.link = .ready → 1000 < (cmd.nowMs - s.lastValidMs).toNat → t.link = .initializing) ∧
    (cmd.word = 0x0500 → t.link = .initializing) ∧
    (t.link ≠ s.link →
      (t.resp.event = .complete ∧ t.resp.status = .ok) ∨
      (cmd.word = 0x0400 ∧ s.link = .ready ∧ 1000 < (cmd.nowMs - s.lastValidMs).toNat) ∨
      cmd.word = 0x0500)

/-! ### Control requests -/

/-- R271: Each of the eleven well-formed control requests: while Initializing it reports NOT_READY and changes
nothing; while Ready it answers OK, sets pending = Started, transmits nothing, and writes at most DeviceState and the
two retention registers. The NOT_READY status is the spec's own decision D31. -/
def Obligations.RequestsNeedReadyLink : Prop :=
  ∀ (i : Instr) (s : State), Instr.wf s.cfg i = true →
    (∀ b, i ≠ .feed b) → i ≠ .poll → i ≠ .restart → i ≠ .tick → i ≠ .reset →
    (s.link = .initializing → exec i s = .next { s with resp := { status := .notReady }, tx := none }) ∧
    (s.link = .ready → ∃ t, exec i s = .next t ∧
      t = { s with
        dev := t.dev, lastMode := t.lastMode, lastDisplayMode := t.lastDisplayMode
        pending := .started, resp := { status := .ok }, tx := none })

/-- R260: SET_MODE m while Ready writes mode = m, power = (m is not Off), last_mode = m unless m is Off, and pending =
Started; while Initializing it is NOT_READY; its words are 0x1000 .. 0x1005 and a larger argument is ILLEGAL_OPERAND.
That power follows the mode is the spec's own decision D31. -/
def Obligations.SetModeRequest : Prop :=
  (∀ (m : Mode) (s : State), s.link = .ready →
    exec (.setMode m) s = .next
      { s with
        dev := { s.dev with mode := m, power := (match m with | .off => false | _ => true) }
        lastMode :=
          (match m with
          | .off => s.lastMode | .auto => .auto | .cool => .cool | .heat => .heat | .dry => .dry
          | .fanOnly => .fanOnly)
        pending := .started, resp := { status := .ok }, tx := none }) ∧
  (∀ (m : Mode) (s : State), s.link = .initializing →
    exec (.setMode m) s = .next { s with resp := { status := .notReady }, tx := none }) ∧
  [Mode.off, .auto, .cool, .heat, .dry, .fanOnly].map (fun m => encode (.setMode m)) =
    [0x1000, 0x1001, 0x1002, 0x1003, 0x1004, 0x1005] ∧
  ∀ (c : Config) (arg : Byte), 5 < arg.toNat → decode c ((0x10 : Byte) ++ arg) = .error .illegalOperand

/-- R261: SET_TEMP v while Ready writes target_temperature = v clamped to 16..30 and pending = Started; while
Initializing it is NOT_READY; its word is 0x11vv and every argument byte is legal. -/
def Obligations.SetTempRequest : Prop :=
  (∀ (v : Byte) (s : State), s.link = .ready →
    exec (.setTemp v) s = .next
      { s with
        dev := { s.dev with
          targetTemperature := if v.toNat < 16 then 16 else if 30 < v.toNat then 30 else v.toNat }
        pending := .started, resp := { status := .ok }, tx := none }) ∧
  (∀ (v : Byte) (s : State), s.link = .initializing →
    exec (.setTemp v) s = .next { s with resp := { status := .notReady }, tx := none }) ∧
  ∀ (c : Config) (v : Byte), encode (.setTemp v) = (0x11 : Byte) ++ v ∧
    decode c ((0x11 : Byte) ++ v) = .ok (.setTemp v)

/-- R262: SET_FAN f while Ready writes fan_mode = f and pending = Started; while Initializing it is NOT_READY; its
words are 0x1200 .. 0x1207 and a larger argument is ILLEGAL_OPERAND. -/
def Obligations.SetFanRequest : Prop :=
  (∀ (f : Fan) (s : State), s.link = .ready →
    exec (.setFan f) s = .next
      { s with
        dev := { s.dev with fanMode := f }, pending := .started, resp := { status := .ok }, tx := none }) ∧
  (∀ (f : Fan) (s : State), s.link = .initializing →
    exec (.setFan f) s = .next { s with resp := { status := .notReady }, tx := none }) ∧
  [Fan.auto, .quiet, .low, .medLow, .med, .medHigh, .high, .turbo].map (fun f => encode (.setFan f)) =
    [0x1200, 0x1201, 0x1202, 0x1203, 0x1204, 0x1205, 0x1206, 0x1207] ∧
  ∀ (c : Config) (arg : Byte), 7 < arg.toNat → decode c ((0x12 : Byte) ++ arg) = .error .illegalOperand

/-- R263, R264: SET_VSWING i and SET_HSWING i while Ready write the position at index i of their set and pending =
Started; while Initializing they are NOT_READY; an index outside the set is ILLEGAL_OPERAND; index 0 is Off and index
1 FullSwing under a valid configuration. -/
def Obligations.SetSwingRequests : Prop :=
  (∀ (n : Byte) (s : State) (e : SwingEntry), s.link = .ready → s.cfg.vswing[n.toNat]? = some e →
    exec (.setVswing n) s = .next
      { s with
        dev := { s.dev with verticalSwing := e.pos }, pending := .started, resp := { status := .ok }, tx := none }) ∧
  (∀ (n : Byte) (s : State) (e : SwingEntry), s.link = .ready → s.cfg.hswing[n.toNat]? = some e →
    exec (.setHswing n) s = .next
      { s with
        dev := { s.dev with horizontalSwing := e.pos }, pending := .started, resp := { status := .ok }
        tx := none }) ∧
  (∀ (n : Byte) (s : State), s.link = .initializing → n.toNat < s.cfg.vswing.length →
    exec (.setVswing n) s = .next { s with resp := { status := .notReady }, tx := none }) ∧
  (∀ (n : Byte) (s : State), s.link = .initializing → n.toNat < s.cfg.hswing.length →
    exec (.setHswing n) s = .next { s with resp := { status := .notReady }, tx := none }) ∧
  ∀ (c : Config) (n : Byte),
    decode c ((0x13 : Byte) ++ n) =
      (if n.toNat < c.vswing.length then .ok (.setVswing n) else .error .illegalOperand) ∧
    decode c ((0x14 : Byte) ++ n) =
      (if n.toNat < c.hswing.length then .ok (.setHswing n) else .error .illegalOperand) ∧
    (configValid c = true →
      (c.vswing[0]?).map (fun e => e.pos) = some .off ∧ (c.vswing[1]?).map (fun e => e.pos) = some .fullSwing ∧
      (c.hswing[0]?).map (fun e => e.pos) = some .off ∧ (c.hswing[1]?).map (fun e => e.pos) = some .fullSwing)

/-- R265: SET_DISPLAY d while Ready writes display_mode = d, last_display_mode = d unless d is Off, and pending =
Started; while Initializing it is NOT_READY; its words are 0x1500 .. 0x1504 and a larger argument is ILLEGAL_OPERAND.
Keeping last_display_mode is the spec's own decision D14. -/
def Obligations.SetDisplayRequest : Prop :=
  (∀ (d : Disp) (s : State), s.link = .ready →
    exec (.setDisplay d) s = .next
      { s with
        dev := { s.dev with displayMode := d }
        lastDisplayMode :=
          (match d with
          | .off => s.lastDisplayMode | .auto => .auto | .setTemp => .setTemp | .actualTemp => .actualTemp
          | .outsideTemp => .outsideTemp)
        pending := .started, resp := { status := .ok }, tx := none }) ∧
  (∀ (d : Disp) (s : State), s.link = .initializing →
    exec (.setDisplay d) s = .next { s with resp := { status := .notReady }, tx := none }) ∧
  [Disp.off, .auto, .setTemp, .actualTemp, .outsideTemp].map (fun d => encode (.setDisplay d)) =
    [0x1500, 0x1501, 0x1502, 0x1503, 0x1504] ∧
  ∀ (c : Config) (arg : Byte), 4 < arg.toNat → decode c ((0x15 : Byte) ++ arg) = .error .illegalOperand

/-- R266: SET_UNIT u while Ready writes display_unit = u and pending = Started and nothing else; while Initializing it
is NOT_READY; its words are 0x1600 and 0x1601 and a larger argument is ILLEGAL_OPERAND. -/
def Obligations.SetUnitRequest : Prop :=
  (∀ (u : TempUnit) (s : State), s.link = .ready →
    exec (.setUnit u) s = .next
      { s with
        dev := { s.dev with displayUnit := u }, pending := .started, resp := { status := .ok }, tx := none }) ∧
  (∀ (u : TempUnit) (s : State), s.link = .initializing →
    exec (.setUnit u) s = .next { s with resp := { status := .notReady }, tx := none }) ∧
  [TempUnit.celsius, .fahrenheit].map (fun u => encode (.setUnit u)) = [0x1600, 0x1601] ∧
  ∀ (c : Config) (arg : Byte), 1 < arg.toNat → decode c ((0x16 : Byte) ++ arg) = .error .illegalOperand

/-- R267 to R270: Each toggle request x while Ready writes its toggle and pending = Started (also when the value is
already held) and nothing else; while Initializing it is NOT_READY; the words are 0x1700, 0x1701 .. 0x1A00, 0x1A01 and
a larger argument is ILLEGAL_OPERAND. -/
def Obligations.ToggleRequests : Prop :=
  (∀ (x : Bool) (s : State), s.link = .ready →
    exec (.setPlasma x) s = .next
      { s with dev := { s.dev with plasma := x }, pending := .started, resp := { status := .ok }, tx := none } ∧
    exec (.setSleep x) s = .next
      { s with dev := { s.dev with sleep := x }, pending := .started, resp := { status := .ok }, tx := none } ∧
    exec (.setXfan x) s = .next
      { s with dev := { s.dev with xfan := x }, pending := .started, resp := { status := .ok }, tx := none } ∧
    exec (.setSave x) s = .next
      { s with dev := { s.dev with save := x }, pending := .started, resp := { status := .ok }, tx := none }) ∧
  (∀ (x : Bool) (s : State), s.link = .initializing →
    exec (.setPlasma x) s = .next { s with resp := { status := .notReady }, tx := none } ∧
    exec (.setSleep x) s = .next { s with resp := { status := .notReady }, tx := none } ∧
    exec (.setXfan x) s = .next { s with resp := { status := .notReady }, tx := none } ∧
    exec (.setSave x) s = .next { s with resp := { status := .notReady }, tx := none }) ∧
  [Instr.setPlasma false, .setPlasma true, .setSleep false, .setSleep true, .setXfan false, .setXfan true,
    .setSave false, .setSave true].map encode =
    [0x1700, 0x1701, 0x1800, 0x1801, 0x1900, 0x1901, 0x1A00, 0x1A01] ∧
  ∀ (c : Config) (arg : Byte), 1 < arg.toNat →
    decode c ((0x17 : Byte) ++ arg) = .error .illegalOperand ∧
    decode c ((0x18 : Byte) ++ arg) = .error .illegalOperand ∧
    decode c ((0x19 : Byte) ++ arg) = .error .illegalOperand ∧
    decode c ((0x1A : Byte) ++ arg) = .error .illegalOperand

/-! ### The command port -/

/-- R80, R82: Under a valid configuration and within the host's time duties, when the word at the head of the port
decodes to an operation, the step is exec of that operation on the state with the word taken, its time sampled, and
the age since the last TICK updated (the port queue and the age are the model's: log entries 2 and 4). -/
def Obligations.StepRunsDecodedOperation : Prop :=
  ∀ (s : State) (cmd : Command) (rest : List Command) (i : Instr), configValid s.cfg = true →
    s.port = cmd :: rest → (∀ a, s.tickAgeMs = some a → a + (cmd.nowMs - s.nowMs).toNat < 2 ^ 31) →
    decode s.cfg cmd.word = .ok i →
    step s = exec i
      { s with
        port := rest, nowMs := cmd.nowMs
        tickAgeMs := some (if i = .tick then 0 else
          match s.tickAgeMs with | none => 0 | some a => a + (cmd.nowMs - s.nowMs).toNat) }

/-- R296: A step on a word that does not decode only takes the word, samples its time and reports ILLEGAL_COMMAND or
ILLEGAL_OPERAND; FEED in Complete or Restart reports BUSY and changes nothing; an operation that answers NOT_READY
found link = Initializing and changed nothing. Rests on the spec's own decisions D5, D28 and D31. -/
def Obligations.TurnedAwayOperationsChangeNothing : Prop :=
  (∀ (s : State) (cmd : Command) (rest : List Command) (e : WordError), configValid s.cfg = true →
    s.port = cmd :: rest → (∀ a, s.tickAgeMs = some a → a + (cmd.nowMs - s.nowMs).toNat < 2 ^ 31) →
    decode s.cfg cmd.word = .error e →
    ∃ age, step s = .next
      { s with
        port := rest, nowMs := cmd.nowMs, tickAgeMs := age
        resp := { status := (match e with
          | .illegalCommand => .illegalCommand | .illegalOperand => .illegalOperand) }
        tx := none }) ∧
  (∀ (b : Byte) (s : State), s.rxState = .complete ∨ s.rxState = .restart →
    exec (.feed b) s = .next { s with resp := { status := .busy }, tx := none }) ∧
  (∀ (i : Instr) (s : State) (t : State), exec i s = .next t → t.resp.status = .notReady →
    s.link = .initializing ∧ t = { s with resp := { status := .notReady }, tx := none })

/-- R7, U16, R332: A configuration that breaks the well-formedness conditions is refused; a command 2^31 ms or more
after the last TICK is refused; a state with no waiting command faults, which is the end of a run. Which outcome
stands for each is the model's choice (log entries 2, 4 and 19). -/
def Obligations.StopsOutsideTheHostTable : Prop :=
  (∀ s : State, configValid s.cfg = false → step s = .refused .badConfiguration) ∧
  (∀ (s : State) (cmd : Command) (rest : List Command) (a : Nat), configValid s.cfg = true →
    s.port = cmd :: rest → s.tickAgeMs = some a → 2 ^ 31 ≤ a + (cmd.nowMs - s.nowMs).toNat →
    step s = .refused .hostTimeDuty) ∧
  (∀ s : State, configValid s.cfg = true → s.port = [] → step s = .fault .noCommand)

/-- R82, R83, R84: decode answers ILLEGAL_COMMAND exactly when the op byte is none of the sixteen of the table, and an
operation exactly when op and argument match a row; otherwise ILLEGAL_OPERAND. This is the spec's own inference (R83),
and the numbers are its decision D27. -/
def Obligations.EveryWordHasAVerdict : Prop :=
  ∀ (c : Config) (w : Word) (op arg : Nat), op = w.toNat / 256 → arg = w.toNat % 256 →
    (decode c w = .error .illegalCommand ↔
      op ∉ [0x01, 0x02, 0x03, 0x04, 0x05, 0x10, 0x11, 0x12, 0x13, 0x14, 0x15, 0x16, 0x17, 0x18, 0x19, 0x1A]) ∧
    ((∃ i, decode c w = .ok i) ↔
      op = 0x01 ∨ op = 0x11 ∨ (op ∈ [0x02, 0x03, 0x04, 0x05] ∧ arg = 0) ∨ (op = 0x10 ∧ arg < 6) ∨
      (op = 0x12 ∧ arg < 8) ∨ (op = 0x13 ∧ arg < c.vswing.length) ∨ (op = 0x14 ∧ arg < c.hswing.length) ∨
      (op = 0x15 ∧ arg < 5) ∨ (op = 0x16 ∧ arg < 2) ∨ (op ∈ [0x17, 0x18, 0x19, 0x1A] ∧ arg < 2))

/-- R84, R85: Nine words written out from the opcode table decode to their operations under EXCFG; an op outside the
table and an argument outside its class are refused. The numbers are the spec's own decision D27. A sanity statement.
-/
def Obligations.WordsOfTheOpcodeMap : Prop :=
  decode Config.excfg 0x017E = .ok (.feed 0x7E) ∧ decode Config.excfg 0x0200 = .ok .poll ∧
  decode Config.excfg 0x0400 = .ok .tick ∧ decode Config.excfg 0x1003 = .ok (.setMode .heat) ∧
  decode Config.excfg 0x1128 = .ok (.setTemp 40) ∧ decode Config.excfg 0x1207 = .ok (.setFan .turbo) ∧
  decode Config.excfg 0x1306 = .ok (.setVswing 6) ∧ decode Config.excfg 0x1502 = .ok (.setDisplay .setTemp) ∧
  decode Config.excfg 0x1A01 = .ok (.setSave true) ∧ decode Config.excfg 0x0600 = .error .illegalCommand ∧
  decode Config.excfg 0x1006 = .error .illegalOperand

/-- R83, R84: For every configuration and every well-formed operation, the command word encode gives decodes to that
operation, whatever its operand. -/
def Obligations.DecodeOfEncodeIsIdentity : Prop :=
  ∀ (c : Config) (i : Instr), Instr.wf c i = true → decode c (encode i) = .ok i

/-- R83, R84: For every configuration, if a word decodes to an operation, that operation is well-formed and its
encoding is the word, so no two words mean the same. -/
def Obligations.EncodeOfDecodeIsIdentity : Prop :=
  ∀ (c : Config) (w : Word) (i : Instr), decode c w = .ok i → encode i = w ∧ Instr.wf c i = true

/-- R49: For each of the fourteen selections the read port answers the field's current value. A read is a function of
the state and changes nothing (log entry 15). Which registers it shows is the spec's own decision D40. -/
def Obligations.ReadPortShowsTheFields : Prop :=
  ∀ s : State,
    (readPort .power s).value = some (.bool s.dev.power) ∧ (readPort .mode s).value = some (.mode s.dev.mode) ∧
    (readPort .targetTemperature s).value = some (.temp s.dev.targetTemperature) ∧
    (readPort .currentTemperature s).value = some (.optTemp s.dev.currentTemperature) ∧
    (readPort .fanMode s).value = some (.fan s.dev.fanMode) ∧
    (readPort .verticalSwing s).value = some (.swing s.dev.verticalSwing) ∧
    (readPort .horizontalSwing s).value = some (.swing s.dev.horizontalSwing) ∧
    (readPort .displayMode s).value = some (.disp s.dev.displayMode) ∧
    (readPort .displayUnit s).value = some (.unit s.dev.displayUnit) ∧
    (readPort .plasma s).value = some (.bool s.dev.plasma) ∧ (readPort .sleep s).value = some (.bool s.dev.sleep) ∧
    (readPort .xfan s).value = some (.bool s.dev.xfan) ∧ (readPort .save s).value = some (.bool s.dev.save) ∧
    (readPort .link s).value = some (.link s.link)

/-! ### The whole machine -/

/-- R70, R69, R74: A step that answers took the oldest command of the port and left the rest in order, sampled that
command's time, and left the configuration as it was. Atomicity and the fixed configuration are the spec's own
decision D33. -/
def Obligations.StepsTakeOneOperationInOrder : Prop :=
  ∀ s t : State, step s = .next t →
    ∃ cmd rest, s.port = cmd :: rest ∧ t.port = rest ∧ t.nowMs = cmd.nowMs ∧ t.cfg = s.cfg

/-- R120, R34: A step on a word whose op byte is not 0x01 .. 0x05 leaves rx_state, rx_buf, rx_count, rx_need and
last_byte_ms as they were. -/
def Obligations.OnlyReceiverOperationsWriteTheReceiver : Prop :=
  ∀ (s t : State) (cmd : Command) (rest : List Command), step s = .next t → s.port = cmd :: rest →
    ¬(1 ≤ cmd.word.toNat / 256 ∧ cmd.word.toNat / 256 ≤ 5) →
    t.rxState = s.rxState ∧ t.rxBuf = s.rxBuf ∧ t.rxCount = s.rxCount ∧ t.rxNeed = s.rxNeed ∧
    t.lastByteMs = s.lastByteMs

/-- R21: If a step changes DeviceState, it was a POLL that accepted a report, RESET, or a control request (op 0x10 ..
0x1A) with link = Ready that set pending = Started. -/
def Obligations.OnlyReportsRequestsAndResetWriteDeviceState : Prop :=
  ∀ (s t : State) (cmd : Command) (rest : List Command), step s = .next t → s.port = cmd :: rest →
    t.dev ≠ s.dev →
    (cmd.word = 0x0200 ∧ t.resp.event = .complete ∧ t.resp.status = .ok) ∨ cmd.word = 0x0500 ∨
    (0x10 ≤ cmd.word.toNat / 256 ∧ cmd.word.toNat / 256 ≤ 0x1A ∧ s.link = .ready ∧ t.pending = .started)

/-- R51: For every valid configuration the power-up state meets Invariants: the conditions of 10_state.md on the
receiver, the temperatures, mode and power, link, pending and awaiting, the canonical buffer, and the swing positions
in their sets. This list is the spec's own inference (R51). -/
def Obligations.InvariantHoldsAtPowerUp : Prop :=
  ∀ c : Config, configValid c = true → Invariants (State.resetWith c)

/-- R51: From every state that meets Invariants, whichever operation the step takes, if it answers a next state then
that state meets Invariants. This list is the spec's own inference (R51). -/
def Obligations.EveryStepKeepsTheInvariant : Prop :=
  ∀ s t : State, Invariants s → step s = .next t → Invariants t

/-- R297: From every state that meets Invariants, whatever the command word at the head of the port, within the host's
time duties the step answers a next state and the rest of the port follows. This is the spec's own inference (R297).
-/
def Obligations.NoCommandIsFatal : Prop :=
  ∀ (s : State) (cmd : Command) (rest : List Command), Invariants s → s.port = cmd :: rest →
    (∀ a, s.tickAgeMs = some a → a + (cmd.nowMs - s.nowMs).toNat < 2 ^ 31) →
    ∃ t, step s = .next t ∧ t.port = rest

/-- R297, R331, R332: From every state that meets Invariants, if the waiting commands keep the host's time duties, the
run takes all of them, gives one report per command, and ends in a state with an empty port that meets Invariants.
Rests on the spec's own decision D30. -/
def Obligations.EveryDutifulRunCompletes : Prop :=
  ∀ s : State, Invariants s → timeDutiesKept s.tickAgeMs s.nowMs s.port = true →
    ∃ t, (run s).2 = .next t ∧ (run s).1.length = s.port.length ∧ t.port = [] ∧ Invariants t
end

