-- ==== Sys2Proof/Laws/Codes.lean ====
section
/-! SUPPORT. What a valid configuration gives (00_scope.md R7), and the code maps and their inverses
(30_encoding.md R94, R95). -/

namespace Sys2Proof.Machine

/-! ### The parts of a valid configuration -/

theorem configValid_iff {c : Config} :
    configValid c = true ↔
      fieldTableOk c = true ∧ markersOk c = true ∧ enumCodesOk c = true ∧ fanTableOk c = true ∧
        swingSetOk (fieldWidth c .vswing) c.vswing = true ∧ swingSetOk (fieldWidth c .hswing) c.hswing = true ∧
        gapOk c = true := by
  simp [configValid, and_assoc]

theorem BodyField.mem_all (f : BodyField) : f ∈ BodyField.all := by cases f <;> decide

theorem fieldTable_spec {c : Config} (h : fieldTableOk c = true) (f : BodyField) :
    descShapeOk (fieldDesc c f) = true ∧ widthOk c f = true ∧ indexOk c f = true := by
  have := List.all_eq_true.mp h f (BodyField.mem_all f)
  simpa [and_assoc] using this

theorem codesOk_spec {w : Nat} {codes : List Nat} (h : codesOk w codes = true) :
    codes.Nodup ∧ ∀ v ∈ codes, v < 2 ^ w := by
  simpa [codesOk] using h

/-- A swing position set holds Off and FullSwing, no position twice, and fitting, pairwise different codes. -/
theorem swingSet_spec {w : Nat} {set : List SwingEntry} (h : swingSetOk w set = true) :
    (set[0]?).map (fun e => e.pos) = some .off ∧ (set[1]?).map (fun e => e.pos) = some .fullSwing ∧
      (set.map (fun e => e.pos)).Nodup ∧ set.length ≤ 256 ∧ (set.map (fun e => e.code)).Nodup ∧
      ∀ e ∈ set, e.code < 2 ^ w := by
  simp only [swingSetOk, Bool.and_eq_true, decide_eq_true_eq] at h
  obtain ⟨⟨⟨⟨h₁, h₂⟩, h₃⟩, h₄⟩, h₅⟩ := h
  obtain ⟨h₅, h₆⟩ := codesOk_spec h₅
  exact ⟨h₁, h₂, h₃, h₄, h₅, fun e he => h₆ _ (List.mem_map_of_mem he)⟩

theorem off_mem_swingSet {w : Nat} {set : List SwingEntry} (h : swingSetOk w set = true) :
    SwingPos.off ∈ set.map (fun e => e.pos) := by
  obtain ⟨h₀, -⟩ := swingSet_spec h
  obtain ⟨e, he, hp⟩ := Option.map_eq_some_iff.mp h₀
  exact hp ▸ List.mem_map_of_mem (List.mem_of_getElem? he)

/-! ### Inverse maps -/

/-- Looking a code up gives an element with that code. -/
theorem find_code_some {α β : Type} [DecidableEq β] {l : List α} {code : α → β} {v : β} {x : α}
    (h : l.find? (fun y => code y = v) = some x) : code x = v := by
  simpa using List.find?_some h

/-- Looking up the code of an element gives that element, when the code map is injective on the list. -/
theorem find_code_self {α β : Type} [DecidableEq β] {l : List α} {code : α → β} {x : α} (hx : x ∈ l)
    (hinj : (l.map code).Nodup) : l.find? (fun y => code y = code x) = some x := by
  cases hf : l.find? (fun y => code y = code x) with
  | none => exact absurd (List.find?_eq_none.mp hf x hx) (by simp)
  | some y =>
    have hy : y ∈ l := List.mem_of_find?_eq_some hf
    rw [List.inj_on_of_nodup_map hinj hy hx (find_code_some hf)]

theorem find_code_none {α β : Type} [DecidableEq β] {l : List α} {code : α → β} {v : β} :
    l.find? (fun y => code y = v) = none ↔ ∀ x ∈ l, code x ≠ v := by
  simp [List.find?_eq_none]

theorem OnMode.mem_all (m : OnMode) : m ∈ OnMode.all := by cases m <;> decide
theorem OnDisp.mem_all (d : OnDisp) : d ∈ OnDisp.all := by cases d <;> decide
theorem TempUnit.mem_all (u : TempUnit) : u ∈ TempUnit.all := by cases u <;> decide
theorem Fan.mem_all (f : Fan) : f ∈ Fan.all := by cases f <;> decide

theorem modeOfCode_none {c : Config} {v : Nat} : modeOfCode c v = none ↔ ∀ m, modeCode c m ≠ v := by
  rw [modeOfCode, find_code_none]
  exact ⟨fun h m => h m (OnMode.mem_all m), fun h m _ => h m⟩

theorem dispOfCode_none {c : Config} {v : Nat} : dispOfCode c v = none ↔ ∀ d, dispCode c d ≠ v := by
  rw [dispOfCode, find_code_none]
  exact ⟨fun h m => h m (OnDisp.mem_all m), fun h m _ => h m⟩

theorem unitOfCode_none {c : Config} {v : Nat} : unitOfCode c v = none ↔ ∀ u, unitCode c u ≠ v := by
  rw [unitOfCode, find_code_none]
  exact ⟨fun h m => h m (TempUnit.mem_all m), fun h m _ => h m⟩

theorem fanOfRow_none {c : Config} {r : FanRow} : fanOfRow c r = none ↔ ∀ f, fanRow c f ≠ r := by
  rw [fanOfRow, find_code_none]
  exact ⟨fun h m => h m (Fan.mem_all m), fun h m _ => h m⟩

theorem swingOfCode_none {set : List SwingEntry} {v : Nat} :
    swingOfCode set v = none ↔ ∀ e ∈ set, e.code ≠ v := by
  simp [swingOfCode, List.find?_eq_none]

section Valid

variable {c : Config} (h : configValid c = true)

include h

theorem enumCodes_spec :
    codesOk (fieldWidth c .mode) (OnMode.all.map (modeCode c)) = true ∧
      codesOk (fieldWidth c .dispMode) (OnDisp.all.map (dispCode c)) = true ∧
      codesOk (fieldWidth c .dispUnit) (TempUnit.all.map (unitCode c)) = true := by
  have := (configValid_iff.mp h).2.2.1
  simpa [enumCodesOk, and_assoc] using this

theorem modeCode_lt (m : OnMode) : modeCode c m < 2 ^ fieldWidth c .mode :=
  (codesOk_spec (enumCodes_spec h).1).2 _ (List.mem_map_of_mem (OnMode.mem_all m))

theorem dispCode_lt (d : OnDisp) : dispCode c d < 2 ^ fieldWidth c .dispMode :=
  (codesOk_spec (enumCodes_spec h).2.1).2 _ (List.mem_map_of_mem (OnDisp.mem_all d))

theorem unitCode_lt (u : TempUnit) : unitCode c u < 2 ^ fieldWidth c .dispUnit :=
  (codesOk_spec (enumCodes_spec h).2.2).2 _ (List.mem_map_of_mem (TempUnit.mem_all u))

theorem modeOfCode_modeCode (m : OnMode) : modeOfCode c (modeCode c m) = some m :=
  find_code_self (OnMode.mem_all m) (codesOk_spec (enumCodes_spec h).1).1

theorem dispOfCode_dispCode (d : OnDisp) : dispOfCode c (dispCode c d) = some d :=
  find_code_self (OnDisp.mem_all d) (codesOk_spec (enumCodes_spec h).2.1).1

theorem unitOfCode_unitCode (u : TempUnit) : unitOfCode c (unitCode c u) = some u :=
  find_code_self (TempUnit.mem_all u) (codesOk_spec (enumCodes_spec h).2.2).1

theorem fanTable_spec :
    (Fan.all.map (fanRow c)).Nodup ∧
      ∀ f, (fanRow c f).a < 2 ^ fieldWidth c .fanA ∧ (fanRow c f).b < 2 ^ fieldWidth c .fanB := by
  have := (configValid_iff.mp h).2.2.2.1
  simp only [fanTableOk, Bool.and_eq_true, decide_eq_true_eq, List.all_eq_true] at this
  exact ⟨this.1.1.1.1, fun f => this.1.1.1.2 f (Fan.mem_all f)⟩

theorem fanOfRow_fanRow (f : Fan) : fanOfRow c (fanRow c f) = some f :=
  find_code_self (Fan.mem_all f) (fanTable_spec h).1

end Valid

/-- The code of a position of the set decodes to that position. -/
theorem swingOfCode_swingCode {w : Nat} {set : List SwingEntry} {p : SwingPos} (hv : swingSetOk w set = true)
    (hp : p ∈ set.map (fun e => e.pos)) :
    swingOfCode set (swingCode set p) = some p ∧ swingCode set p < 2 ^ w := by
  obtain ⟨-, -, hpos, -, hcode, hlt⟩ := swingSet_spec hv
  obtain ⟨e, he, rfl⟩ := List.mem_map.mp hp
  have hf : set.find? (fun y => y.pos = e.pos) = some e := find_code_self he hpos
  have hc : swingCode set e.pos = e.code := by simp only [swingCode, hf]
  refine ⟨?_, hc ▸ hlt e he⟩
  rw [hc, swingOfCode, find_code_self (code := fun e : SwingEntry => e.code) he hcode]
  rfl

theorem swingOfCode_mem {set : List SwingEntry} {v : Nat} {p : SwingPos} (h : swingOfCode set v = some p) :
    p ∈ set.map (fun e => e.pos) := by
  obtain ⟨e, he, rfl⟩ := Option.map_eq_some_iff.mp h
  exact List.mem_map_of_mem (List.mem_of_find?_eq_some he)

theorem swingAt_mem {set : List SwingEntry} {i : Byte} {p : SwingPos} (h : swingAt set i = some p) :
    p ∈ set.map (fun e => e.pos) := by
  obtain ⟨e, he, rfl⟩ := Option.map_eq_some_iff.mp h
  exact List.mem_map_of_mem (List.mem_of_getElem? he)

theorem swingAt_none {set : List SwingEntry} {i : Byte} : swingAt set i = none ↔ set.length ≤ i.toNat := by
  simp [swingAt]

end Sys2Proof.Machine
end

