-- ==== Sys2Proof/Laws/Decoder.lean ====
section
/-! SUPPORT. The nine steps of DECODE: what each writes, that it leaves every other register alone, and the warning it
may append. -/

namespace Sys2Proof.Machine

section Steps

variable (c : Config) (body : List Byte) (d : Decoded)

/-! ### What each step leaves alone -/

/-- decPowerMode writes only power, mode, last_mode, the warnings. -/
theorem decPowerMode_frame :
    (decPowerMode c body d).dev.targetTemperature = d.dev.targetTemperature ∧
      (decPowerMode c body d).dev.currentTemperature = d.dev.currentTemperature ∧
      (decPowerMode c body d).dev.fanMode = d.dev.fanMode ∧
      (decPowerMode c body d).dev.verticalSwing = d.dev.verticalSwing ∧
      (decPowerMode c body d).dev.horizontalSwing = d.dev.horizontalSwing ∧
      (decPowerMode c body d).dev.displayMode = d.dev.displayMode ∧
      (decPowerMode c body d).dev.displayUnit = d.dev.displayUnit ∧
      (decPowerMode c body d).dev.plasma = d.dev.plasma ∧
      (decPowerMode c body d).dev.sleep = d.dev.sleep ∧
      (decPowerMode c body d).dev.xfan = d.dev.xfan ∧
      (decPowerMode c body d).dev.save = d.dev.save ∧
      (decPowerMode c body d).lastDisplayMode = d.lastDisplayMode := by
  unfold decPowerMode
  dsimp only
  split <;> simp [warn]

@[simp] theorem decPowerMode_targetTemperature : (decPowerMode c body d).dev.targetTemperature = d.dev.targetTemperature := (decPowerMode_frame c body d).1
@[simp] theorem decPowerMode_currentTemperature : (decPowerMode c body d).dev.currentTemperature = d.dev.currentTemperature := (decPowerMode_frame c body d).2.1
@[simp] theorem decPowerMode_fanMode : (decPowerMode c body d).dev.fanMode = d.dev.fanMode := (decPowerMode_frame c body d).2.2.1
@[simp] theorem decPowerMode_verticalSwing : (decPowerMode c body d).dev.verticalSwing = d.dev.verticalSwing := (decPowerMode_frame c body d).2.2.2.1
@[simp] theorem decPowerMode_horizontalSwing : (decPowerMode c body d).dev.horizontalSwing = d.dev.horizontalSwing := (decPowerMode_frame c body d).2.2.2.2.1
@[simp] theorem decPowerMode_displayMode : (decPowerMode c body d).dev.displayMode = d.dev.displayMode := (decPowerMode_frame c body d).2.2.2.2.2.1
@[simp] theorem decPowerMode_displayUnit : (decPowerMode c body d).dev.displayUnit = d.dev.displayUnit := (decPowerMode_frame c body d).2.2.2.2.2.2.1
@[simp] theorem decPowerMode_plasma : (decPowerMode c body d).dev.plasma = d.dev.plasma := (decPowerMode_frame c body d).2.2.2.2.2.2.2.1
@[simp] theorem decPowerMode_sleep : (decPowerMode c body d).dev.sleep = d.dev.sleep := (decPowerMode_frame c body d).2.2.2.2.2.2.2.2.1
@[simp] theorem decPowerMode_xfan : (decPowerMode c body d).dev.xfan = d.dev.xfan := (decPowerMode_frame c body d).2.2.2.2.2.2.2.2.2.1
@[simp] theorem decPowerMode_save : (decPowerMode c body d).dev.save = d.dev.save := (decPowerMode_frame c body d).2.2.2.2.2.2.2.2.2.2.1
@[simp] theorem decPowerMode_lastDisplayMode : (decPowerMode c body d).lastDisplayMode = d.lastDisplayMode := (decPowerMode_frame c body d).2.2.2.2.2.2.2.2.2.2.2

/-- decTargetTemp writes only targetTemperature, the warnings. -/
theorem decTargetTemp_frame :
    (decTargetTemp c body d).dev.power = d.dev.power ∧
      (decTargetTemp c body d).dev.mode = d.dev.mode ∧
      (decTargetTemp c body d).dev.currentTemperature = d.dev.currentTemperature ∧
      (decTargetTemp c body d).dev.fanMode = d.dev.fanMode ∧
      (decTargetTemp c body d).dev.verticalSwing = d.dev.verticalSwing ∧
      (decTargetTemp c body d).dev.horizontalSwing = d.dev.horizontalSwing ∧
      (decTargetTemp c body d).dev.displayMode = d.dev.displayMode ∧
      (decTargetTemp c body d).dev.displayUnit = d.dev.displayUnit ∧
      (decTargetTemp c body d).dev.plasma = d.dev.plasma ∧
      (decTargetTemp c body d).dev.sleep = d.dev.sleep ∧
      (decTargetTemp c body d).dev.xfan = d.dev.xfan ∧
      (decTargetTemp c body d).dev.save = d.dev.save ∧
      (decTargetTemp c body d).lastMode = d.lastMode ∧
      (decTargetTemp c body d).lastDisplayMode = d.lastDisplayMode := by
  unfold decTargetTemp
  dsimp only
  split <;> simp [warn]

@[simp] theorem decTargetTemp_power : (decTargetTemp c body d).dev.power = d.dev.power := (decTargetTemp_frame c body d).1
@[simp] theorem decTargetTemp_mode : (decTargetTemp c body d).dev.mode = d.dev.mode := (decTargetTemp_frame c body d).2.1
@[simp] theorem decTargetTemp_currentTemperature : (decTargetTemp c body d).dev.currentTemperature = d.dev.currentTemperature := (decTargetTemp_frame c body d).2.2.1
@[simp] theorem decTargetTemp_fanMode : (decTargetTemp c body d).dev.fanMode = d.dev.fanMode := (decTargetTemp_frame c body d).2.2.2.1
@[simp] theorem decTargetTemp_verticalSwing : (decTargetTemp c body d).dev.verticalSwing = d.dev.verticalSwing := (decTargetTemp_frame c body d).2.2.2.2.1
@[simp] theorem decTargetTemp_horizontalSwing : (decTargetTemp c body d).dev.horizontalSwing = d.dev.horizontalSwing := (decTargetTemp_frame c body d).2.2.2.2.2.1
@[simp] theorem decTargetTemp_displayMode : (decTargetTemp c body d).dev.displayMode = d.dev.displayMode := (decTargetTemp_frame c body d).2.2.2.2.2.2.1
@[simp] theorem decTargetTemp_displayUnit : (decTargetTemp c body d).dev.displayUnit = d.dev.displayUnit := (decTargetTemp_frame c body d).2.2.2.2.2.2.2.1
@[simp] theorem decTargetTemp_plasma : (decTargetTemp c body d).dev.plasma = d.dev.plasma := (decTargetTemp_frame c body d).2.2.2.2.2.2.2.2.1
@[simp] theorem decTargetTemp_sleep : (decTargetTemp c body d).dev.sleep = d.dev.sleep := (decTargetTemp_frame c body d).2.2.2.2.2.2.2.2.2.1
@[simp] theorem decTargetTemp_xfan : (decTargetTemp c body d).dev.xfan = d.dev.xfan := (decTargetTemp_frame c body d).2.2.2.2.2.2.2.2.2.2.1
@[simp] theorem decTargetTemp_save : (decTargetTemp c body d).dev.save = d.dev.save := (decTargetTemp_frame c body d).2.2.2.2.2.2.2.2.2.2.2.1
@[simp] theorem decTargetTemp_lastMode : (decTargetTemp c body d).lastMode = d.lastMode := (decTargetTemp_frame c body d).2.2.2.2.2.2.2.2.2.2.2.2.1
@[simp] theorem decTargetTemp_lastDisplayMode : (decTargetTemp c body d).lastDisplayMode = d.lastDisplayMode := (decTargetTemp_frame c body d).2.2.2.2.2.2.2.2.2.2.2.2.2

/-- decCurrentTemp writes only currentTemperature, the warnings. -/
theorem decCurrentTemp_frame :
    (decCurrentTemp c body d).dev.power = d.dev.power ∧
      (decCurrentTemp c body d).dev.mode = d.dev.mode ∧
      (decCurrentTemp c body d).dev.targetTemperature = d.dev.targetTemperature ∧
      (decCurrentTemp c body d).dev.fanMode = d.dev.fanMode ∧
      (decCurrentTemp c body d).dev.verticalSwing = d.dev.verticalSwing ∧
      (decCurrentTemp c body d).dev.horizontalSwing = d.dev.horizontalSwing ∧
      (decCurrentTemp c body d).dev.displayMode = d.dev.displayMode ∧
      (decCurrentTemp c body d).dev.displayUnit = d.dev.displayUnit ∧
      (decCurrentTemp c body d).dev.plasma = d.dev.plasma ∧
      (decCurrentTemp c body d).dev.sleep = d.dev.sleep ∧
      (decCurrentTemp c body d).dev.xfan = d.dev.xfan ∧
      (decCurrentTemp c body d).dev.save = d.dev.save ∧
      (decCurrentTemp c body d).lastMode = d.lastMode ∧
      (decCurrentTemp c body d).lastDisplayMode = d.lastDisplayMode := by
  unfold decCurrentTemp
  dsimp only
  split
  · simp
  · split <;> simp [warn]

@[simp] theorem decCurrentTemp_power : (decCurrentTemp c body d).dev.power = d.dev.power := (decCurrentTemp_frame c body d).1
@[simp] theorem decCurrentTemp_mode : (decCurrentTemp c body d).dev.mode = d.dev.mode := (decCurrentTemp_frame c body d).2.1
@[simp] theorem decCurrentTemp_targetTemperature : (decCurrentTemp c body d).dev.targetTemperature = d.dev.targetTemperature := (decCurrentTemp_frame c body d).2.2.1
@[simp] theorem decCurrentTemp_fanMode : (decCurrentTemp c body d).dev.fanMode = d.dev.fanMode := (decCurrentTemp_frame c body d).2.2.2.1
@[simp] theorem decCurrentTemp_verticalSwing : (decCurrentTemp c body d).dev.verticalSwing = d.dev.verticalSwing := (decCurrentTemp_frame c body d).2.2.2.2.1
@[simp] theorem decCurrentTemp_horizontalSwing : (decCurrentTemp c body d).dev.horizontalSwing = d.dev.horizontalSwing := (decCurrentTemp_frame c body d).2.2.2.2.2.1
@[simp] theorem decCurrentTemp_displayMode : (decCurrentTemp c body d).dev.displayMode = d.dev.displayMode := (decCurrentTemp_frame c body d).2.2.2.2.2.2.1
@[simp] theorem decCurrentTemp_displayUnit : (decCurrentTemp c body d).dev.displayUnit = d.dev.displayUnit := (decCurrentTemp_frame c body d).2.2.2.2.2.2.2.1
@[simp] theorem decCurrentTemp_plasma : (decCurrentTemp c body d).dev.plasma = d.dev.plasma := (decCurrentTemp_frame c body d).2.2.2.2.2.2.2.2.1
@[simp] theorem decCurrentTemp_sleep : (decCurrentTemp c body d).dev.sleep = d.dev.sleep := (decCurrentTemp_frame c body d).2.2.2.2.2.2.2.2.2.1
@[simp] theorem decCurrentTemp_xfan : (decCurrentTemp c body d).dev.xfan = d.dev.xfan := (decCurrentTemp_frame c body d).2.2.2.2.2.2.2.2.2.2.1
@[simp] theorem decCurrentTemp_save : (decCurrentTemp c body d).dev.save = d.dev.save := (decCurrentTemp_frame c body d).2.2.2.2.2.2.2.2.2.2.2.1
@[simp] theorem decCurrentTemp_lastMode : (decCurrentTemp c body d).lastMode = d.lastMode := (decCurrentTemp_frame c body d).2.2.2.2.2.2.2.2.2.2.2.2.1
@[simp] theorem decCurrentTemp_lastDisplayMode : (decCurrentTemp c body d).lastDisplayMode = d.lastDisplayMode := (decCurrentTemp_frame c body d).2.2.2.2.2.2.2.2.2.2.2.2.2

/-- decFan writes only fanMode, the warnings. -/
theorem decFan_frame :
    (decFan c body d).dev.power = d.dev.power ∧
      (decFan c body d).dev.mode = d.dev.mode ∧
      (decFan c body d).dev.targetTemperature = d.dev.targetTemperature ∧
      (decFan c body d).dev.currentTemperature = d.dev.currentTemperature ∧
      (decFan c body d).dev.verticalSwing = d.dev.verticalSwing ∧
      (decFan c body d).dev.horizontalSwing = d.dev.horizontalSwing ∧
      (decFan c body d).dev.displayMode = d.dev.displayMode ∧
      (decFan c body d).dev.displayUnit = d.dev.displayUnit ∧
      (decFan c body d).dev.plasma = d.dev.plasma ∧
      (decFan c body d).dev.sleep = d.dev.sleep ∧
      (decFan c body d).dev.xfan = d.dev.xfan ∧
      (decFan c body d).dev.save = d.dev.save ∧
      (decFan c body d).lastMode = d.lastMode ∧
      (decFan c body d).lastDisplayMode = d.lastDisplayMode := by
  unfold decFan
  dsimp only
  split <;> simp [warn]

@[simp] theorem decFan_power : (decFan c body d).dev.power = d.dev.power := (decFan_frame c body d).1
@[simp] theorem decFan_mode : (decFan c body d).dev.mode = d.dev.mode := (decFan_frame c body d).2.1
@[simp] theorem decFan_targetTemperature : (decFan c body d).dev.targetTemperature = d.dev.targetTemperature := (decFan_frame c body d).2.2.1
@[simp] theorem decFan_currentTemperature : (decFan c body d).dev.currentTemperature = d.dev.currentTemperature := (decFan_frame c body d).2.2.2.1
@[simp] theorem decFan_verticalSwing : (decFan c body d).dev.verticalSwing = d.dev.verticalSwing := (decFan_frame c body d).2.2.2.2.1
@[simp] theorem decFan_horizontalSwing : (decFan c body d).dev.horizontalSwing = d.dev.horizontalSwing := (decFan_frame c body d).2.2.2.2.2.1
@[simp] theorem decFan_displayMode : (decFan c body d).dev.displayMode = d.dev.displayMode := (decFan_frame c body d).2.2.2.2.2.2.1
@[simp] theorem decFan_displayUnit : (decFan c body d).dev.displayUnit = d.dev.displayUnit := (decFan_frame c body d).2.2.2.2.2.2.2.1
@[simp] theorem decFan_plasma : (decFan c body d).dev.plasma = d.dev.plasma := (decFan_frame c body d).2.2.2.2.2.2.2.2.1
@[simp] theorem decFan_sleep : (decFan c body d).dev.sleep = d.dev.sleep := (decFan_frame c body d).2.2.2.2.2.2.2.2.2.1
@[simp] theorem decFan_xfan : (decFan c body d).dev.xfan = d.dev.xfan := (decFan_frame c body d).2.2.2.2.2.2.2.2.2.2.1
@[simp] theorem decFan_save : (decFan c body d).dev.save = d.dev.save := (decFan_frame c body d).2.2.2.2.2.2.2.2.2.2.2.1
@[simp] theorem decFan_lastMode : (decFan c body d).lastMode = d.lastMode := (decFan_frame c body d).2.2.2.2.2.2.2.2.2.2.2.2.1
@[simp] theorem decFan_lastDisplayMode : (decFan c body d).lastDisplayMode = d.lastDisplayMode := (decFan_frame c body d).2.2.2.2.2.2.2.2.2.2.2.2.2

/-- decVswing writes only verticalSwing, the warnings. -/
theorem decVswing_frame :
    (decVswing c body d).dev.power = d.dev.power ∧
      (decVswing c body d).dev.mode = d.dev.mode ∧
      (decVswing c body d).dev.targetTemperature = d.dev.targetTemperature ∧
      (decVswing c body d).dev.currentTemperature = d.dev.currentTemperature ∧
      (decVswing c body d).dev.fanMode = d.dev.fanMode ∧
      (decVswing c body d).dev.horizontalSwing = d.dev.horizontalSwing ∧
      (decVswing c body d).dev.displayMode = d.dev.displayMode ∧
      (decVswing c body d).dev.displayUnit = d.dev.displayUnit ∧
      (decVswing c body d).dev.plasma = d.dev.plasma ∧
      (decVswing c body d).dev.sleep = d.dev.sleep ∧
      (decVswing c body d).dev.xfan = d.dev.xfan ∧
      (decVswing c body d).dev.save = d.dev.save ∧
      (decVswing c body d).lastMode = d.lastMode ∧
      (decVswing c body d).lastDisplayMode = d.lastDisplayMode := by
  unfold decVswing
  dsimp only
  split <;> simp [warn]

@[simp] theorem decVswing_power : (decVswing c body d).dev.power = d.dev.power := (decVswing_frame c body d).1
@[simp] theorem decVswing_mode : (decVswing c body d).dev.mode = d.dev.mode := (decVswing_frame c body d).2.1
@[simp] theorem decVswing_targetTemperature : (decVswing c body d).dev.targetTemperature = d.dev.targetTemperature := (decVswing_frame c body d).2.2.1
@[simp] theorem decVswing_currentTemperature : (decVswing c body d).dev.currentTemperature = d.dev.currentTemperature := (decVswing_frame c body d).2.2.2.1
@[simp] theorem decVswing_fanMode : (decVswing c body d).dev.fanMode = d.dev.fanMode := (decVswing_frame c body d).2.2.2.2.1
@[simp] theorem decVswing_horizontalSwing : (decVswing c body d).dev.horizontalSwing = d.dev.horizontalSwing := (decVswing_frame c body d).2.2.2.2.2.1
@[simp] theorem decVswing_displayMode : (decVswing c body d).dev.displayMode = d.dev.displayMode := (decVswing_frame c body d).2.2.2.2.2.2.1
@[simp] theorem decVswing_displayUnit : (decVswing c body d).dev.displayUnit = d.dev.displayUnit := (decVswing_frame c body d).2.2.2.2.2.2.2.1
@[simp] theorem decVswing_plasma : (decVswing c body d).dev.plasma = d.dev.plasma := (decVswing_frame c body d).2.2.2.2.2.2.2.2.1
@[simp] theorem decVswing_sleep : (decVswing c body d).dev.sleep = d.dev.sleep := (decVswing_frame c body d).2.2.2.2.2.2.2.2.2.1
@[simp] theorem decVswing_xfan : (decVswing c body d).dev.xfan = d.dev.xfan := (decVswing_frame c body d).2.2.2.2.2.2.2.2.2.2.1
@[simp] theorem decVswing_save : (decVswing c body d).dev.save = d.dev.save := (decVswing_frame c body d).2.2.2.2.2.2.2.2.2.2.2.1
@[simp] theorem decVswing_lastMode : (decVswing c body d).lastMode = d.lastMode := (decVswing_frame c body d).2.2.2.2.2.2.2.2.2.2.2.2.1
@[simp] theorem decVswing_lastDisplayMode : (decVswing c body d).lastDisplayMode = d.lastDisplayMode := (decVswing_frame c body d).2.2.2.2.2.2.2.2.2.2.2.2.2

/-- decHswing writes only horizontalSwing, the warnings. -/
theorem decHswing_frame :
    (decHswing c body d).dev.power = d.dev.power ∧
      (decHswing c body d).dev.mode = d.dev.mode ∧
      (decHswing c body d).dev.targetTemperature = d.dev.targetTemperature ∧
      (decHswing c body d).dev.currentTemperature = d.dev.currentTemperature ∧
      (decHswing c body d).dev.fanMode = d.dev.fanMode ∧
      (decHswing c body d).dev.verticalSwing = d.dev.verticalSwing ∧
      (decHswing c body d).dev.displayMode = d.dev.displayMode ∧
      (decHswing c body d).dev.displayUnit = d.dev.displayUnit ∧
      (decHswing c body d).dev.plasma = d.dev.plasma ∧
      (decHswing c body d).dev.sleep = d.dev.sleep ∧
      (decHswing c body d).dev.xfan = d.dev.xfan ∧
      (decHswing c body d).dev.save = d.dev.save ∧
      (decHswing c body d).lastMode = d.lastMode ∧
      (decHswing c body d).lastDisplayMode = d.lastDisplayMode := by
  unfold decHswing
  dsimp only
  split <;> simp [warn]

@[simp] theorem decHswing_power : (decHswing c body d).dev.power = d.dev.power := (decHswing_frame c body d).1
@[simp] theorem decHswing_mode : (decHswing c body d).dev.mode = d.dev.mode := (decHswing_frame c body d).2.1
@[simp] theorem decHswing_targetTemperature : (decHswing c body d).dev.targetTemperature = d.dev.targetTemperature := (decHswing_frame c body d).2.2.1
@[simp] theorem decHswing_currentTemperature : (decHswing c body d).dev.currentTemperature = d.dev.currentTemperature := (decHswing_frame c body d).2.2.2.1
@[simp] theorem decHswing_fanMode : (decHswing c body d).dev.fanMode = d.dev.fanMode := (decHswing_frame c body d).2.2.2.2.1
@[simp] theorem decHswing_verticalSwing : (decHswing c body d).dev.verticalSwing = d.dev.verticalSwing := (decHswing_frame c body d).2.2.2.2.2.1
@[simp] theorem decHswing_displayMode : (decHswing c body d).dev.displayMode = d.dev.displayMode := (decHswing_frame c body d).2.2.2.2.2.2.1
@[simp] theorem decHswing_displayUnit : (decHswing c body d).dev.displayUnit = d.dev.displayUnit := (decHswing_frame c body d).2.2.2.2.2.2.2.1
@[simp] theorem decHswing_plasma : (decHswing c body d).dev.plasma = d.dev.plasma := (decHswing_frame c body d).2.2.2.2.2.2.2.2.1
@[simp] theorem decHswing_sleep : (decHswing c body d).dev.sleep = d.dev.sleep := (decHswing_frame c body d).2.2.2.2.2.2.2.2.2.1
@[simp] theorem decHswing_xfan : (decHswing c body d).dev.xfan = d.dev.xfan := (decHswing_frame c body d).2.2.2.2.2.2.2.2.2.2.1
@[simp] theorem decHswing_save : (decHswing c body d).dev.save = d.dev.save := (decHswing_frame c body d).2.2.2.2.2.2.2.2.2.2.2.1
@[simp] theorem decHswing_lastMode : (decHswing c body d).lastMode = d.lastMode := (decHswing_frame c body d).2.2.2.2.2.2.2.2.2.2.2.2.1
@[simp] theorem decHswing_lastDisplayMode : (decHswing c body d).lastDisplayMode = d.lastDisplayMode := (decHswing_frame c body d).2.2.2.2.2.2.2.2.2.2.2.2.2

/-- decDisplay writes only displayMode, last_display_mode, the warnings. -/
theorem decDisplay_frame :
    (decDisplay c body d).dev.power = d.dev.power ∧
      (decDisplay c body d).dev.mode = d.dev.mode ∧
      (decDisplay c body d).dev.targetTemperature = d.dev.targetTemperature ∧
      (decDisplay c body d).dev.currentTemperature = d.dev.currentTemperature ∧
      (decDisplay c body d).dev.fanMode = d.dev.fanMode ∧
      (decDisplay c body d).dev.verticalSwing = d.dev.verticalSwing ∧
      (decDisplay c body d).dev.horizontalSwing = d.dev.horizontalSwing ∧
      (decDisplay c body d).dev.displayUnit = d.dev.displayUnit ∧
      (decDisplay c body d).dev.plasma = d.dev.plasma ∧
      (decDisplay c body d).dev.sleep = d.dev.sleep ∧
      (decDisplay c body d).dev.xfan = d.dev.xfan ∧
      (decDisplay c body d).dev.save = d.dev.save ∧
      (decDisplay c body d).lastMode = d.lastMode := by
  unfold decDisplay
  dsimp only
  split <;> simp [warn]

@[simp] theorem decDisplay_power : (decDisplay c body d).dev.power = d.dev.power := (decDisplay_frame c body d).1
@[simp] theorem decDisplay_mode : (decDisplay c body d).dev.mode = d.dev.mode := (decDisplay_frame c body d).2.1
@[simp] theorem decDisplay_targetTemperature : (decDisplay c body d).dev.targetTemperature = d.dev.targetTemperature := (decDisplay_frame c body d).2.2.1
@[simp] theorem decDisplay_currentTemperature : (decDisplay c body d).dev.currentTemperature = d.dev.currentTemperature := (decDisplay_frame c body d).2.2.2.1
@[simp] theorem decDisplay_fanMode : (decDisplay c body d).dev.fanMode = d.dev.fanMode := (decDisplay_frame c body d).2.2.2.2.1
@[simp] theorem decDisplay_verticalSwing : (decDisplay c body d).dev.verticalSwing = d.dev.verticalSwing := (decDisplay_frame c body d).2.2.2.2.2.1
@[simp] theorem decDisplay_horizontalSwing : (decDisplay c body d).dev.horizontalSwing = d.dev.horizontalSwing := (decDisplay_frame c body d).2.2.2.2.2.2.1
@[simp] theorem decDisplay_displayUnit : (decDisplay c body d).dev.displayUnit = d.dev.displayUnit := (decDisplay_frame c body d).2.2.2.2.2.2.2.1
@[simp] theorem decDisplay_plasma : (decDisplay c body d).dev.plasma = d.dev.plasma := (decDisplay_frame c body d).2.2.2.2.2.2.2.2.1
@[simp] theorem decDisplay_sleep : (decDisplay c body d).dev.sleep = d.dev.sleep := (decDisplay_frame c body d).2.2.2.2.2.2.2.2.2.1
@[simp] theorem decDisplay_xfan : (decDisplay c body d).dev.xfan = d.dev.xfan := (decDisplay_frame c body d).2.2.2.2.2.2.2.2.2.2.1
@[simp] theorem decDisplay_save : (decDisplay c body d).dev.save = d.dev.save := (decDisplay_frame c body d).2.2.2.2.2.2.2.2.2.2.2.1
@[simp] theorem decDisplay_lastMode : (decDisplay c body d).lastMode = d.lastMode := (decDisplay_frame c body d).2.2.2.2.2.2.2.2.2.2.2.2

/-- decUnit writes only displayUnit, the warnings. -/
theorem decUnit_frame :
    (decUnit c body d).dev.power = d.dev.power ∧
      (decUnit c body d).dev.mode = d.dev.mode ∧
      (decUnit c body d).dev.targetTemperature = d.dev.targetTemperature ∧
      (decUnit c body d).dev.currentTemperature = d.dev.currentTemperature ∧
      (decUnit c body d).dev.fanMode = d.dev.fanMode ∧
      (decUnit c body d).dev.verticalSwing = d.dev.verticalSwing ∧
      (decUnit c body d).dev.horizontalSwing = d.dev.horizontalSwing ∧
      (decUnit c body d).dev.displayMode = d.dev.displayMode ∧
      (decUnit c body d).dev.plasma = d.dev.plasma ∧
      (decUnit c body d).dev.sleep = d.dev.sleep ∧
      (decUnit c body d).dev.xfan = d.dev.xfan ∧
      (decUnit c body d).dev.save = d.dev.save ∧
      (decUnit c body d).lastMode = d.lastMode ∧
      (decUnit c body d).lastDisplayMode = d.lastDisplayMode := by
  unfold decUnit
  dsimp only
  split <;> simp [warn]

@[simp] theorem decUnit_power : (decUnit c body d).dev.power = d.dev.power := (decUnit_frame c body d).1
@[simp] theorem decUnit_mode : (decUnit c body d).dev.mode = d.dev.mode := (decUnit_frame c body d).2.1
@[simp] theorem decUnit_targetTemperature : (decUnit c body d).dev.targetTemperature = d.dev.targetTemperature := (decUnit_frame c body d).2.2.1
@[simp] theorem decUnit_currentTemperature : (decUnit c body d).dev.currentTemperature = d.dev.currentTemperature := (decUnit_frame c body d).2.2.2.1
@[simp] theorem decUnit_fanMode : (decUnit c body d).dev.fanMode = d.dev.fanMode := (decUnit_frame c body d).2.2.2.2.1
@[simp] theorem decUnit_verticalSwing : (decUnit c body d).dev.verticalSwing = d.dev.verticalSwing := (decUnit_frame c body d).2.2.2.2.2.1
@[simp] theorem decUnit_horizontalSwing : (decUnit c body d).dev.horizontalSwing = d.dev.horizontalSwing := (decUnit_frame c body d).2.2.2.2.2.2.1
@[simp] theorem decUnit_displayMode : (decUnit c body d).dev.displayMode = d.dev.displayMode := (decUnit_frame c body d).2.2.2.2.2.2.2.1
@[simp] theorem decUnit_plasma : (decUnit c body d).dev.plasma = d.dev.plasma := (decUnit_frame c body d).2.2.2.2.2.2.2.2.1
@[simp] theorem decUnit_sleep : (decUnit c body d).dev.sleep = d.dev.sleep := (decUnit_frame c body d).2.2.2.2.2.2.2.2.2.1
@[simp] theorem decUnit_xfan : (decUnit c body d).dev.xfan = d.dev.xfan := (decUnit_frame c body d).2.2.2.2.2.2.2.2.2.2.1
@[simp] theorem decUnit_save : (decUnit c body d).dev.save = d.dev.save := (decUnit_frame c body d).2.2.2.2.2.2.2.2.2.2.2.1
@[simp] theorem decUnit_lastMode : (decUnit c body d).lastMode = d.lastMode := (decUnit_frame c body d).2.2.2.2.2.2.2.2.2.2.2.2.1
@[simp] theorem decUnit_lastDisplayMode : (decUnit c body d).lastDisplayMode = d.lastDisplayMode := (decUnit_frame c body d).2.2.2.2.2.2.2.2.2.2.2.2.2

/-- decToggles writes only plasma, sleep, xfan, save. -/
theorem decToggles_frame :
    (decToggles c body d).dev.power = d.dev.power ∧
      (decToggles c body d).dev.mode = d.dev.mode ∧
      (decToggles c body d).dev.targetTemperature = d.dev.targetTemperature ∧
      (decToggles c body d).dev.currentTemperature = d.dev.currentTemperature ∧
      (decToggles c body d).dev.fanMode = d.dev.fanMode ∧
      (decToggles c body d).dev.verticalSwing = d.dev.verticalSwing ∧
      (decToggles c body d).dev.horizontalSwing = d.dev.horizontalSwing ∧
      (decToggles c body d).dev.displayMode = d.dev.displayMode ∧
      (decToggles c body d).dev.displayUnit = d.dev.displayUnit ∧
      (decToggles c body d).lastMode = d.lastMode ∧
      (decToggles c body d).lastDisplayMode = d.lastDisplayMode ∧
      (decToggles c body d).warnings = d.warnings := by
  refine ⟨rfl, rfl, rfl, rfl, rfl, rfl, rfl, rfl, rfl, rfl, rfl, rfl⟩

@[simp] theorem decToggles_power : (decToggles c body d).dev.power = d.dev.power := (decToggles_frame c body d).1
@[simp] theorem decToggles_mode : (decToggles c body d).dev.mode = d.dev.mode := (decToggles_frame c body d).2.1
@[simp] theorem decToggles_targetTemperature : (decToggles c body d).dev.targetTemperature = d.dev.targetTemperature := (decToggles_frame c body d).2.2.1
@[simp] theorem decToggles_currentTemperature : (decToggles c body d).dev.currentTemperature = d.dev.currentTemperature := (decToggles_frame c body d).2.2.2.1
@[simp] theorem decToggles_fanMode : (decToggles c body d).dev.fanMode = d.dev.fanMode := (decToggles_frame c body d).2.2.2.2.1
@[simp] theorem decToggles_verticalSwing : (decToggles c body d).dev.verticalSwing = d.dev.verticalSwing := (decToggles_frame c body d).2.2.2.2.2.1
@[simp] theorem decToggles_horizontalSwing : (decToggles c body d).dev.horizontalSwing = d.dev.horizontalSwing := (decToggles_frame c body d).2.2.2.2.2.2.1
@[simp] theorem decToggles_displayMode : (decToggles c body d).dev.displayMode = d.dev.displayMode := (decToggles_frame c body d).2.2.2.2.2.2.2.1
@[simp] theorem decToggles_displayUnit : (decToggles c body d).dev.displayUnit = d.dev.displayUnit := (decToggles_frame c body d).2.2.2.2.2.2.2.2.1
@[simp] theorem decToggles_lastMode : (decToggles c body d).lastMode = d.lastMode := (decToggles_frame c body d).2.2.2.2.2.2.2.2.2.1
@[simp] theorem decToggles_lastDisplayMode : (decToggles c body d).lastDisplayMode = d.lastDisplayMode := (decToggles_frame c body d).2.2.2.2.2.2.2.2.2.2.1
@[simp] theorem decToggles_warnings : (decToggles c body d).warnings = d.warnings := (decToggles_frame c body d).2.2.2.2.2.2.2.2.2.2.2

/-! ### What each step writes -/

theorem decPowerMode_power : (decPowerMode c body d).dev.power = flag c body .power := by
  unfold decPowerMode
  dsimp only
  split <;> simp [warn]

theorem decPowerMode_mode :
    (decPowerMode c body d).dev.mode =
      (match modeOfCode c (field c body .mode) with
      | some m => if flag c body .power then OnMode.toMode m else .off
      | none => .off) := by
  unfold decPowerMode
  dsimp only
  split <;> simp [warn, *]

theorem decPowerMode_lastMode :
    (decPowerMode c body d).lastMode = (modeOfCode c (field c body .mode)).getD d.lastMode := by
  unfold decPowerMode
  dsimp only
  split <;> simp [warn, *]

theorem decTargetTemp_targetTemperature :
    (decTargetTemp c body d).dev.targetTemperature =
      if 30 < field c body .tempSet + 16 then d.dev.targetTemperature else field c body .tempSet + 16 := by
  unfold decTargetTemp
  have h : (tempMax < field c body .tempSet + tempOffset ∨ tempSanity < field c body .tempSet + tempOffset) ↔
      30 < field c body .tempSet + 16 := by
    unfold tempMax tempSanity tempOffset
    omega
  simp only [h]
  by_cases hc : 30 < field c body .tempSet + 16
  · simp only [if_pos hc, warn]
  · simp only [if_neg hc]
    rfl

theorem decCurrentTemp_currentTemperature :
    (decCurrentTemp c body d).dev.currentTemperature =
      if c.extSensor = true ∨ 100 < (field c body .tempCur : Int) - c.curTempBias then d.dev.currentTemperature
      else some ((field c body .tempCur : Int) - c.curTempBias) := by
  unfold decCurrentTemp
  have h100 : ((tempSanity : Nat) : Int) = 100 := rfl
  simp only [h100]
  by_cases he : c.extSensor = true
  · simp only [if_pos he, if_pos (Or.inl he)]
  · by_cases hu : 100 < (field c body .tempCur : Int) - c.curTempBias
    · simp only [if_neg he, if_pos hu, if_pos (Or.inr hu), warn]
    · simp only [if_neg he, if_neg hu, if_neg (not_or.mpr ⟨he, hu⟩)]

theorem decFan_fanMode :
    (decFan c body d).dev.fanMode = (fanOfRow c (fanKey c body)).getD .auto := by
  unfold decFan
  split <;> simp [warn, *]

theorem decVswing_verticalSwing :
    (decVswing c body d).dev.verticalSwing = (swingOfCode c.vswing (field c body .vswing)).getD .off := by
  unfold decVswing
  split <;> simp [warn, *]

theorem decHswing_horizontalSwing :
    (decHswing c body d).dev.horizontalSwing = (swingOfCode c.hswing (field c body .hswing)).getD .off := by
  unfold decHswing
  split <;> simp [warn, *]

theorem decDisplay_displayMode :
    (decDisplay c body d).dev.displayMode =
      (match dispOfCode c (field c body .dispMode) with
      | some m => if flag c body .dispPower then OnDisp.toDisp m else .off
      | none => .off) := by
  unfold decDisplay
  split <;> simp [warn, *]

theorem decDisplay_lastDisplayMode :
    (decDisplay c body d).lastDisplayMode = (dispOfCode c (field c body .dispMode)).getD d.lastDisplayMode := by
  unfold decDisplay
  split <;> simp [warn, *]

theorem decUnit_displayUnit :
    (decUnit c body d).dev.displayUnit = (unitOfCode c (field c body .dispUnit)).getD .celsius := by
  unfold decUnit
  split <;> simp [warn, *]

/-! ### The warning of each step -/

/-- The warnings a step appends: one when `w` says so. -/
def warnIf (w : Bool) (k : WarningKind) (f : BodyField) : List Warning := if w then [⟨k, f⟩] else []

theorem decPowerMode_warnings :
    (decPowerMode c body d).warnings =
      d.warnings ++ warnIf (modeOfCode c (field c body .mode)).isNone .unknownFieldValue .mode := by
  unfold decPowerMode
  dsimp only
  split <;> simp [warn, warnIf, *]

theorem decTargetTemp_warnings :
    (decTargetTemp c body d).warnings =
      d.warnings ++ warnIf (decide (30 < field c body .tempSet + 16)) .outOfRangeTemperature .tempSet := by
  unfold decTargetTemp
  have h : (tempMax < field c body .tempSet + tempOffset ∨ tempSanity < field c body .tempSet + tempOffset) ↔
      30 < field c body .tempSet + 16 := by
    unfold tempMax tempSanity tempOffset
    omega
  simp only [h]
  by_cases hc : 30 < field c body .tempSet + 16
  · simp only [if_pos hc, warn, warnIf, decide_eq_true_eq]
  · simp only [if_neg hc, warnIf, decide_eq_true_eq, List.append_nil]

theorem decCurrentTemp_warnings :
    (decCurrentTemp c body d).warnings =
      d.warnings ++ warnIf (!c.extSensor && decide (100 < (field c body .tempCur : Int) - c.curTempBias))
        .outOfRangeTemperature .tempCur := by
  unfold decCurrentTemp
  have h100 : ((tempSanity : Nat) : Int) = 100 := rfl
  simp only [h100]
  by_cases he : c.extSensor = true
  · simp [he, warnIf]
  · by_cases hu : 100 < (field c body .tempCur : Int) - c.curTempBias
    · simp [he, hu, warn, warnIf]
    · simp [he, hu, warnIf]

theorem decFan_warnings :
    (decFan c body d).warnings =
      d.warnings ++ warnIf (fanOfRow c (fanKey c body)).isNone .unknownFieldValue .fanA := by
  unfold decFan
  split <;> simp [warn, warnIf, *]

theorem decVswing_warnings :
    (decVswing c body d).warnings =
      d.warnings ++ warnIf (swingOfCode c.vswing (field c body .vswing)).isNone .unknownFieldValue .vswing := by
  unfold decVswing
  split <;> simp [warn, warnIf, *]

theorem decHswing_warnings :
    (decHswing c body d).warnings =
      d.warnings ++ warnIf (swingOfCode c.hswing (field c body .hswing)).isNone .unknownFieldValue .hswing := by
  unfold decHswing
  split <;> simp [warn, warnIf, *]

theorem decDisplay_warnings :
    (decDisplay c body d).warnings =
      d.warnings ++ warnIf (dispOfCode c (field c body .dispMode)).isNone .unknownFieldValue .dispMode := by
  unfold decDisplay
  split <;> simp [warn, warnIf, *]

theorem decUnit_warnings :
    (decUnit c body d).warnings =
      d.warnings ++ warnIf (unitOfCode c (field c body .dispUnit)).isNone .unknownFieldValue .dispUnit := by
  unfold decUnit
  split <;> simp [warn, warnIf, *]

/-! ### DECODE as a whole -/

/-- What DECODE appends to the warnings (42_decoder.md R187). -/
def newWarnings : List Warning :=
  warnIf (modeOfCode c (field c body .mode)).isNone .unknownFieldValue .mode ++
  (warnIf (decide (30 < field c body .tempSet + 16)) .outOfRangeTemperature .tempSet ++
  (warnIf (!c.extSensor && decide (100 < (field c body .tempCur : Int) - c.curTempBias))
    .outOfRangeTemperature .tempCur ++
  (warnIf (fanOfRow c (fanKey c body)).isNone .unknownFieldValue .fanA ++
  (warnIf (swingOfCode c.vswing (field c body .vswing)).isNone .unknownFieldValue .vswing ++
  (warnIf (swingOfCode c.hswing (field c body .hswing)).isNone .unknownFieldValue .hswing ++
  (warnIf (dispOfCode c (field c body .dispMode)).isNone .unknownFieldValue .dispMode ++
  warnIf (unitOfCode c (field c body .dispUnit)).isNone .unknownFieldValue .dispUnit))))))

theorem decodeFrom_warnings : (decodeFrom c body d).warnings = d.warnings ++ newWarnings c body := by
  simp only [decodeFrom, decToggles_warnings, decUnit_warnings, decDisplay_warnings, decHswing_warnings,
    decVswing_warnings, decFan_warnings, decCurrentTemp_warnings, decTargetTemp_warnings, decPowerMode_warnings,
    List.append_assoc, newWarnings]

theorem decodeFrom_power : (decodeFrom c body d).dev.power = flag c body .power := by
  simp [decodeFrom, decPowerMode_power]

theorem decodeFrom_mode :
    (decodeFrom c body d).dev.mode =
      (match modeOfCode c (field c body .mode) with
      | some m => if flag c body .power then OnMode.toMode m else .off
      | none => .off) := by
  simp [decodeFrom, decPowerMode_mode]

theorem decodeFrom_lastMode :
    (decodeFrom c body d).lastMode = (modeOfCode c (field c body .mode)).getD d.lastMode := by
  simp [decodeFrom, decPowerMode_lastMode]

theorem decodeFrom_targetTemperature :
    (decodeFrom c body d).dev.targetTemperature =
      if 30 < field c body .tempSet + 16 then d.dev.targetTemperature else field c body .tempSet + 16 := by
  simp [decodeFrom, decTargetTemp_targetTemperature]

theorem decodeFrom_currentTemperature :
    (decodeFrom c body d).dev.currentTemperature =
      if c.extSensor = true ∨ 100 < (field c body .tempCur : Int) - c.curTempBias then d.dev.currentTemperature
      else some ((field c body .tempCur : Int) - c.curTempBias) := by
  simp [decodeFrom, decCurrentTemp_currentTemperature]

theorem decodeFrom_fanMode :
    (decodeFrom c body d).dev.fanMode = (fanOfRow c (fanKey c body)).getD .auto := by
  simp [decodeFrom, decFan_fanMode]

theorem decodeFrom_verticalSwing :
    (decodeFrom c body d).dev.verticalSwing = (swingOfCode c.vswing (field c body .vswing)).getD .off := by
  simp [decodeFrom, decVswing_verticalSwing]

theorem decodeFrom_horizontalSwing :
    (decodeFrom c body d).dev.horizontalSwing = (swingOfCode c.hswing (field c body .hswing)).getD .off := by
  simp [decodeFrom, decHswing_horizontalSwing]

theorem decodeFrom_displayMode :
    (decodeFrom c body d).dev.displayMode =
      (match dispOfCode c (field c body .dispMode) with
      | some m => if flag c body .dispPower then OnDisp.toDisp m else .off
      | none => .off) := by
  simp [decodeFrom, decDisplay_displayMode]

theorem decodeFrom_lastDisplayMode :
    (decodeFrom c body d).lastDisplayMode = (dispOfCode c (field c body .dispMode)).getD d.lastDisplayMode := by
  simp [decodeFrom, decDisplay_lastDisplayMode]

theorem decodeFrom_displayUnit :
    (decodeFrom c body d).dev.displayUnit = (unitOfCode c (field c body .dispUnit)).getD .celsius := by
  simp [decodeFrom, decUnit_displayUnit]

theorem decodeFrom_toggles :
    (decodeFrom c body d).dev.plasma = flag c body .plasma ∧ (decodeFrom c body d).dev.sleep = flag c body .sleep ∧
      (decodeFrom c body d).dev.xfan = flag c body .xfan ∧ (decodeFrom c body d).dev.save = flag c body .save := by
  unfold decodeFrom
  exact ⟨rfl, rfl, rfl, rfl⟩

/-- DECODE in closed form (42_decoder.md R170, R188). -/
theorem decodeFrom_eq :
    decodeFrom c body d =
      { dev :=
          { power := flag c body .power
            mode := (match modeOfCode c (field c body .mode) with
              | some m => if flag c body .power then OnMode.toMode m else .off
              | none => .off)
            targetTemperature :=
              if 30 < field c body .tempSet + 16 then d.dev.targetTemperature else field c body .tempSet + 16
            currentTemperature :=
              if c.extSensor = true ∨ 100 < (field c body .tempCur : Int) - c.curTempBias
              then d.dev.currentTemperature else some ((field c body .tempCur : Int) - c.curTempBias)
            fanMode := (fanOfRow c (fanKey c body)).getD .auto
            verticalSwing := (swingOfCode c.vswing (field c body .vswing)).getD .off
            horizontalSwing := (swingOfCode c.hswing (field c body .hswing)).getD .off
            displayMode := (match dispOfCode c (field c body .dispMode) with
              | some m => if flag c body .dispPower then OnDisp.toDisp m else .off
              | none => .off)
            displayUnit := (unitOfCode c (field c body .dispUnit)).getD .celsius
            plasma := flag c body .plasma, sleep := flag c body .sleep
            xfan := flag c body .xfan, save := flag c body .save }
        lastMode := (modeOfCode c (field c body .mode)).getD d.lastMode
        lastDisplayMode := (dispOfCode c (field c body .dispMode)).getD d.lastDisplayMode
        warnings := d.warnings ++ newWarnings c body } := by
  rw [← decodeFrom_mode, ← decodeFrom_targetTemperature, ← decodeFrom_currentTemperature, ← decodeFrom_fanMode,
    ← decodeFrom_verticalSwing, ← decodeFrom_horizontalSwing, ← decodeFrom_displayMode, ← decodeFrom_displayUnit,
    ← decodeFrom_lastMode, ← decodeFrom_lastDisplayMode, ← decodeFrom_warnings]
  generalize hr : decodeFrom c body d = r
  obtain ⟨⟨_, _, _, _, _, _, _, _, _, _, _, _, _⟩, _, _, _⟩ := r
  have hp := decodeFrom_power c body d
  have ht := decodeFrom_toggles c body d
  rw [hr] at hp ht
  obtain ⟨h₁, h₂, h₃, h₄⟩ := ht
  subst h₁ h₂ h₃ h₄ hp
  rfl

theorem mem_warnIf (x : Bool) (k : WarningKind) (f : BodyField) (w : Warning) :
    w ∈ warnIf x k f ↔ x = true ∧ w = ⟨k, f⟩ := by
  unfold warnIf
  cases x <;> simp

end Steps

end Sys2Proof.Machine
end

