-- ==== Sys2Proof/Laws/Fields.lean ====
section
/-! SUPPORT. Extraction and packing of one field (30_encoding.md R92, R93): what a put changes, and that a field reads
back the value put into it. -/

namespace Sys2Proof.Machine

/-! ### Bytes of a body -/

@[simp] theorem length_orByte (body : List Byte) (i : Nat) (v : Byte) : (orByte body i v).length = body.length := by
  simp [orByte]

@[simp] theorem length_put (c : Config) (body : List Byte) (f : BodyField) (v : Nat) :
    (put c body f v).length = body.length := by
  simp [put]

theorem getD_set (body : List Byte) (i j : Nat) (v : Byte) :
    (body.set i v).getD j 0 = if j = i ∧ i < body.length then v else body.getD j 0 := by
  simp only [List.getD_eq_getElem?_getD, List.getElem?_set]
  by_cases hij : i = j
  · subst hij
    by_cases hi : i < body.length
    · simp [hi]
    · simp [hi]
  · simp [hij, Ne.symm hij]

theorem getD_orByte (body : List Byte) (i j : Nat) (v : Byte) :
    (orByte body i v).getD j 0 = if j = i ∧ i < body.length then body.getD j 0 ||| v else body.getD j 0 := by
  rw [orByte, getD_set]
  split_ifs with h
  · rw [h.1]
  · rfl

/-- The bits a put adds to its byte. -/
def putBits (c : Config) (f : BodyField) (v : Nat) : Byte :=
  BitVec.ofNat 8 (v <<< (fieldDesc c f).shift) &&& (fieldDesc c f).mask

theorem getD_put (c : Config) (body : List Byte) (f : BodyField) (v j : Nat) :
    (put c body f v).getD j 0 =
      if j = (fieldDesc c f).idx ∧ (fieldDesc c f).idx < body.length then body.getD j 0 ||| putBits c f v
      else body.getD j 0 :=
  getD_orByte ..

/-! ### One field -/

/-- Two descriptors share no bit. -/
def descDisjoint (d e : FieldDesc) : Prop := d.idx = e.idx → d.mask &&& e.mask = 0

theorem and_or_and_of_disjoint {x y m n : Byte} (h : m &&& n = 0) : (x ||| (y &&& n)) &&& m = x &&& m := by
  have hb : ∀ i (hi : i < 8), (m[i] && n[i]) = false := fun i hi => by
    rw [← BitVec.getElem_and, show m &&& n = 0#8 from h, BitVec.getElem_zero]
  ext i hi
  have := hb i hi
  simp only [BitVec.getElem_and, BitVec.getElem_or]
  revert this
  cases m[i] <;> cases n[i] <;> simp

theorem and_or_and_self {x y m : Byte} (h : x &&& m = 0) : (x ||| (y &&& m)) &&& m = y &&& m := by
  have hb : ∀ i (hi : i < 8), (x[i] && m[i]) = false := fun i hi => by
    rw [← BitVec.getElem_and, show x &&& m = 0#8 from h, BitVec.getElem_zero]
  ext i hi
  have := hb i hi
  simp only [BitVec.getElem_and, BitVec.getElem_or]
  revert this
  cases m[i] <;> cases x[i] <;> simp

/-- A put leaves a field that shares no bit with it unchanged. -/
theorem field_put_of_disjoint {c : Config} {body : List Byte} {f g : BodyField} {v : Nat}
    (h : descDisjoint (fieldDesc c g) (fieldDesc c f)) : field c (put c body f v) g = field c body g := by
  unfold field
  rw [getD_put]
  split_ifs with hi
  · rw [putBits, and_or_and_of_disjoint (h hi.1)]
  · rfl

/-- A value that fits its mask comes back from the bits a put adds. -/
theorem putBits_shift {c : Config} {f : BodyField} {v : Nat} (hs : descShapeOk (fieldDesc c f) = true)
    (hv : v < 2 ^ fieldWidth c f) : (putBits c f v >>> (fieldDesc c f).shift).toNat = v := by
  unfold putBits
  rw [fieldWidth] at hv
  generalize fieldDesc c f = d at *
  obtain ⟨idx, mask, shift⟩ := d
  simp only [descShapeOk, Bool.and_eq_true, decide_eq_true_eq] at hs hv ⊢
  obtain ⟨⟨-, -⟩, hm⟩ := hs
  generalize popcount mask = w at *
  have hmask : mask.toNat < 256 := mask.isLt
  have hlt : v * 2 ^ shift < 2 ^ 8 := by
    refine lt_of_le_of_lt (Nat.mul_le_mul_right _ (Nat.le_sub_one_of_lt hv)) ?_
    rw [← hm]; exact hmask
  rw [BitVec.toNat_ushiftRight, BitVec.toNat_and, BitVec.toNat_ofNat, Nat.shiftLeft_eq, Nat.mod_eq_of_lt hlt, hm,
    ← Nat.shiftLeft_eq, ← Nat.shiftLeft_eq, ← Nat.shiftLeft_and_distrib, Nat.and_two_pow_sub_one_eq_mod,
    Nat.mod_eq_of_lt hv, Nat.shiftLeft_shiftRight]

/-- A value that fits a field whose bits are clear is read back from it. -/
theorem field_put_self {c : Config} {body : List Byte} {f : BodyField} {v : Nat}
    (hs : descShapeOk (fieldDesc c f) = true) (hi : (fieldDesc c f).idx < body.length)
    (h0 : body.getD (fieldDesc c f).idx 0 &&& (fieldDesc c f).mask = 0) (hv : v < 2 ^ fieldWidth c f) :
    field c (put c body f v) f = v := by
  unfold field
  rw [getD_put, if_pos ⟨rfl, hi⟩, putBits, and_or_and_self h0]
  exact putBits_shift hs hv

/-! ### The bits of a field as a whole -/

/-- The masked byte of a field, before the shift. -/
def fieldBits (c : Config) (body : List Byte) (f : BodyField) : Byte :=
  body.getD (fieldDesc c f).idx 0 &&& (fieldDesc c f).mask

theorem fieldBits_put_of_disjoint {c : Config} {body : List Byte} {f g : BodyField} {v : Nat}
    (h : descDisjoint (fieldDesc c g) (fieldDesc c f)) : fieldBits c (put c body f v) g = fieldBits c body g := by
  unfold fieldBits
  rw [getD_put]
  split_ifs with hi
  · rw [putBits, and_or_and_of_disjoint (h hi.1)]
  · rfl

theorem length_foldl_put (c : Config) (l : List (BodyField × Nat)) (body : List Byte) :
    (l.foldl (fun b e => put c b e.1 e.2) body).length = body.length := by
  induction l generalizing body with
  | nil => rfl
  | cons e l ih => rw [List.foldl_cons, ih, length_put]

/-- Putting fields that share no bit with `g` leaves `g` unchanged. -/
theorem field_foldl_put_of_disjoint {c : Config} {l : List (BodyField × Nat)} {body : List Byte} {g : BodyField}
    (h : ∀ e ∈ l, descDisjoint (fieldDesc c g) (fieldDesc c e.1)) :
    field c (l.foldl (fun b e => put c b e.1 e.2) body) g = field c body g := by
  induction l generalizing body with
  | nil => rfl
  | cons e l ih =>
    rw [List.foldl_cons, ih (fun e' he' => h e' (List.mem_cons_of_mem _ he')),
      field_put_of_disjoint (h e List.mem_cons_self)]

/-- Of fields that share no bit, put into a body where `g` is clear, `g` reads back the value put into it. -/
theorem field_foldl_put {c : Config} {l : List (BodyField × Nat)} {body : List Byte} {g : BodyField} {v : Nat}
    (hnd : (l.map Prod.fst).Nodup) (hmem : (g, v) ∈ l)
    (hdis : ∀ e ∈ l, e.1 ≠ g → descDisjoint (fieldDesc c g) (fieldDesc c e.1))
    (hs : descShapeOk (fieldDesc c g) = true) (hi : (fieldDesc c g).idx < body.length)
    (h0 : fieldBits c body g = 0) (hv : v < 2 ^ fieldWidth c g) :
    field c (l.foldl (fun b e => put c b e.1 e.2) body) g = v := by
  induction l generalizing body with
  | nil => cases hmem
  | cons e l ih =>
    obtain ⟨hne, hnd'⟩ := List.nodup_cons.mp (by simpa only [List.map_cons] using hnd)
    rw [List.foldl_cons]
    rcases List.mem_cons.mp hmem with rfl | hmem'
    · rw [field_foldl_put_of_disjoint (fun e' he' =>
        hdis e' (List.mem_cons_of_mem _ he') (fun heq => hne (by
          show g ∈ _
          exact heq ▸ List.mem_map_of_mem (f := Prod.fst) he')))]
      exact field_put_self hs hi h0 hv
    · have hg : e.1 ≠ g := fun heq => hne (heq ▸ List.mem_map_of_mem (f := Prod.fst) hmem')
      refine ih hnd' hmem' (fun e' he' => hdis e' (List.mem_cons_of_mem _ he')) ?_ ?_
      · rwa [length_put]
      · rwa [fieldBits_put_of_disjoint (hdis e List.mem_cons_self hg)]

/-! ### The length of an encoded body -/

theorem length_constBody (c : Config) : (constBody c).length = txBodyLen := by
  unfold constBody
  have : ∀ (l : List (Nat × Byte)) (body : List Byte),
      (l.foldl (fun body e => orByte body e.1 e.2) body).length = body.length := by
    intro l
    induction l with
    | nil => exact fun _ => rfl
    | cons e l ih => exact fun body => by rw [List.foldl_cons, ih, length_orByte]
  rw [this, List.length_replicate]

theorem length_markBody (c : Config) (p : PendingUpdate) (body : List Byte) :
    (markBody c p body).length = body.length := by
  cases p <;> simp [markBody]

/-- Every encoded body has 45 bytes (43_encoder.md R211). -/
theorem length_encodeBody (c : Config) (d : DeviceState) (lm : OnMode) (ld : OnDisp) (p : PendingUpdate) :
    (encodeBody c d lm ld p).length = txBodyLen := by
  rw [encodeBody, length_foldl_put, length_markBody, length_constBody]

/-- Every frame around a 45-byte body has 50 bytes (43_encoder.md R222). -/
theorem length_frameOf {c : Config} {body : List Byte} (h : body.length = txBodyLen) :
    (frameOf c body).length = txFrameLen := by
  simp [frameOf, h, txBodyLen, txFrameLen]

theorem length_txFrame (s : State) : (txFrame s).length = txFrameLen :=
  length_frameOf (length_encodeBody ..)

end Sys2Proof.Machine
end

