-- ==== Sys2Proof/Laws/Encoder.lean ====
section
/-! SUPPORT. ENCODE: where the markers and the constants stay clear of a field, and what every field of an encoded body
reads back as (43_encoder.md R210 to R220, R225). -/

namespace Sys2Proof.Machine

/-- Or-ing a byte in never clears a bit of a body. -/
theorem and_orByte {body : List Byte} {i j : Nat} {v m : Byte} (h : body.getD j 0 &&& m = m) :
    (orByte body i v).getD j 0 &&& m = m := by
  rw [getD_orByte]
  split_ifs
  · rw [BitVec.and_comm, BitVec.and_or_distrib_left, BitVec.and_comm m, h]
    ext i hi
    simp only [BitVec.getElem_or, BitVec.getElem_and]
    cases m[i] <;> simp
  · exact h

/-- Or-ing a byte into a place of the body sets its bits there. -/
theorem and_orByte_self {body : List Byte} {i : Nat} {v : Byte} (hi : i < body.length) :
    (orByte body i v).getD i 0 &&& v = v := by
  rw [getD_orByte, if_pos ⟨rfl, hi⟩, BitVec.and_comm, BitVec.and_or_distrib_left, BitVec.and_self]
  ext k hk
  simp only [BitVec.getElem_or, BitVec.getElem_and]
  cases v[k] <;> simp

/-- Or-ing a byte in leaves the bits `m` at index `j` as they were where the byte has none of them. -/
theorem and_orByte_of_outside {body : List Byte} {i j : Nat} {v m : Byte} (h : i = j → v &&& m = 0) :
    (orByte body i v).getD j 0 &&& m = body.getD j 0 &&& m := by
  rw [getD_orByte]
  split_ifs with hi
  · rw [BitVec.and_comm, BitVec.and_or_distrib_left, BitVec.and_comm m v, show v &&& m = 0#8 from h hi.1.symm,
      BitVec.or_zero, BitVec.and_comm]
  · rfl

theorem and_foldl_orByte {l : List (Nat × Byte)} {body : List Byte} {j : Nat} {m : Byte}
    (h : body.getD j 0 &&& m = m) : (l.foldl (fun b e => orByte b e.1 e.2) body).getD j 0 &&& m = m := by
  induction l generalizing body with
  | nil => exact h
  | cons e l ih => exact ih (and_orByte h)

/-- Every protocol constant is in the body the constants make (43_encoder.md R211). -/
theorem and_constBody {c : Config} {e : Nat × Byte} (he : e ∈ c.constBits) (hi : e.1 < txBodyLen) :
    (constBody c).getD e.1 0 &&& e.2 = e.2 := by
  have : ∀ (l : List (Nat × Byte)) (body : List Byte), e ∈ l → e.1 < body.length →
      (l.foldl (fun b e => orByte b e.1 e.2) body).getD e.1 0 &&& e.2 = e.2 := by
    intro l
    induction l with
    | nil => exact fun _ h => absurd h List.not_mem_nil
    | cons a l ih =>
      intro body h hb
      rw [List.foldl_cons]
      rcases List.mem_cons.mp h with rfl | h
      · exact and_foldl_orByte (and_orByte_self hb)
      · exact ih _ h (by rwa [length_orByte])
  exact this _ _ he (by rwa [List.length_replicate])

/-- Bits no protocol constant has are 0 in the body the constants make (43_encoder.md R211). -/
theorem and_constBody_of_outside {c : Config} {j : Nat} {m : Byte}
    (h : ∀ e ∈ c.constBits, e.1 = j → e.2 &&& m = 0) :
    (constBody c).getD j 0 &&& m = 0 := by
  have : ∀ (l : List (Nat × Byte)) (body : List Byte), (∀ e ∈ l, e.1 = j → e.2 &&& m = 0) →
      (l.foldl (fun b e => orByte b e.1 e.2) body).getD j 0 &&& m = body.getD j 0 &&& m := by
    intro l
    induction l with
    | nil => exact fun _ _ => rfl
    | cons e l ih =>
      intro body h
      rw [List.foldl_cons, ih _ fun e' he' => h e' (List.mem_cons_of_mem _ he'),
        and_orByte_of_outside (h e List.mem_cons_self)]
  rw [constBody, this _ _ h, List.getD_eq_getElem?_getD, List.getElem?_replicate]
  split_ifs <;> exact BitVec.zero_and

/-- Where the markers stay outside it, a field is clear before any field is packed. -/
theorem fieldBits_markBody {c : Config} (hm : markersOutsideFields c) (p : PendingUpdate) {f : BodyField}
    (hf : f ∈ encodedFields) : fieldBits c (markBody c p (constBody c)) f = 0 := by
  obtain ⟨ha, hn, hc⟩ := hm f hf
  have hconst : fieldBits c (constBody c) f = 0 :=
    and_constBody_of_outside fun e he h => by rw [BitVec.and_comm]; exact hc e he h.symm
  cases p with
  | started =>
    rw [markBody, fieldBits, getD_set, if_neg (fun h => ha h.1)]
    exact hconst
  | clearing => exact hconst
  | none =>
    refine (and_orByte_of_outside fun h => ?_).trans hconst
    rw [BitVec.and_comm]
    exact hn h.symm

theorem packedFields_fst (c : Config) (d : DeviceState) (lm : OnMode) (ld : OnDisp) :
    (packedFields c d lm ld).map Prod.fst = encodedFields := rfl

/-- Every field of an encoded body reads back as the value packed into it, when that value fits. -/
theorem field_encodeBody {c : Config} {d : DeviceState} {lm : OnMode} {ld : OnDisp} {p : PendingUpdate}
    {f : BodyField} {v : Nat} (hv : configValid c = true) (hd : fieldsDisjoint c) (hm : markersOutsideFields c)
    (hmem : (f, v) ∈ packedFields c d lm ld) (hfit : v < 2 ^ fieldWidth c f) :
    field c (encodeBody c d lm ld p) f = v := by
  have hf : f ∈ encodedFields := packedFields_fst c d lm ld ▸ List.mem_map_of_mem (f := Prod.fst) hmem
  obtain ⟨hs, -, hi⟩ := fieldTable_spec (configValid_iff.mp hv).1 f
  refine field_foldl_put ?_ hmem (fun e he hne hidx => ?_) hs ?_ (fieldBits_markBody hm p hf) hfit
  · rw [packedFields_fst]
    decide
  · exact hd f hf e.1 (packedFields_fst c d lm ld ▸ List.mem_map_of_mem (f := Prod.fst) he) (Ne.symm hne) hidx
  · rw [length_markBody, length_constBody]
    cases f <;> first | simpa [indexOk] using hi | exact absurd hf (by decide)

/-- A boolean fits every field. -/
theorem b2n_fits {c : Config} (hv : configValid c = true) (x : Bool) (f : BodyField) :
    b2n x < 2 ^ fieldWidth c f := by
  have h : 1 ≤ fieldWidth c f := by
    have := (fieldTable_spec (configValid_iff.mp hv).1 f).2.1
    cases f <;> simp [widthOk] at this <;> omega
  calc b2n x < 2 ^ 1 := by cases x <;> decide
    _ ≤ 2 ^ fieldWidth c f := Nat.pow_le_pow_right (by decide) h

/-- A boolean packed into a field decodes as itself (30_encoding.md R97). -/
theorem flag_encodeBody {c : Config} {d : DeviceState} {lm : OnMode} {ld : OnDisp} {p : PendingUpdate}
    {f : BodyField} {x : Bool} (hv : configValid c = true) (hd : fieldsDisjoint c) (hm : markersOutsideFields c)
    (hmem : (f, b2n x) ∈ packedFields c d lm ld) : flag c (encodeBody c d lm ld p) f = x := by
  rw [flag, field_encodeBody hv hd hm hmem (b2n_fits hv x f)]
  cases x <;> rfl

/-- The marker or the flag leaves a protocol constant in place, but for the byte the marker overwrites
(43_encoder.md R226). -/
theorem and_markBody {c : Config} {p : PendingUpdate} {body : List Byte} {j : Nat} {m : Byte}
    (h : body.getD j 0 &&& m = m) (hp : p ≠ .started ∨ j ≠ c.applyIdx) :
    (markBody c p body).getD j 0 &&& m = m := by
  cases p with
  | started =>
    rw [markBody, getD_set, if_neg fun hj => hp.elim (fun hs => hs rfl) (fun hne => hne hj.1)]
    exact h
  | clearing => exact h
  | none => exact and_orByte h

/-- A put never clears a bit of a body. -/
theorem and_put {c : Config} {body : List Byte} {f : BodyField} {v j : Nat} {m : Byte}
    (h : body.getD j 0 &&& m = m) : (put c body f v).getD j 0 &&& m = m := and_orByte h

/-- Packing fields none of which has bits of `m` at index `j` leaves those bits as they were. -/
theorem and_foldl_put_of_outside {c : Config} {l : List (BodyField × Nat)} {body : List Byte} {j : Nat} {m : Byte}
    (h : ∀ e ∈ l, (fieldDesc c e.1).idx = j → (fieldDesc c e.1).mask &&& m = 0) :
    (l.foldl (fun b e => put c b e.1 e.2) body).getD j 0 &&& m = body.getD j 0 &&& m := by
  induction l generalizing body with
  | nil => rfl
  | cons e l ih =>
    rw [List.foldl_cons, ih (fun e' he' => h e' (List.mem_cons_of_mem _ he')), getD_put]
    split_ifs with hi
    · rw [putBits, and_or_and_of_disjoint]
      rw [BitVec.and_comm]
      exact h e List.mem_cons_self hi.1.symm
    · rfl

/-- Packing fields never clears bits that were set before. -/
theorem and_foldl_put {c : Config} {l : List (BodyField × Nat)} {body : List Byte} {j : Nat} {m : Byte}
    (h : body.getD j 0 &&& m = m) : (l.foldl (fun b e => put c b e.1 e.2) body).getD j 0 &&& m = m := by
  induction l generalizing body with
  | nil => exact h
  | cons e l ih => exact ih (and_put h)

end Sys2Proof.Machine
end

