-- ==== Sys2Proof/Laws/State.lean ====
section
/-! SUPPORT. One lemma per field per named state update, each true by rfl, so that no later proof unfolds a record
update. -/

namespace Sys2Proof.Machine

/-! ### respond -/

@[simp] theorem respond_cfg (r : Response) (s : State) : (respond r s).cfg = s.cfg := rfl
@[simp] theorem respond_port (r : Response) (s : State) : (respond r s).port = s.port := rfl
@[simp] theorem respond_nowMs (r : Response) (s : State) : (respond r s).nowMs = s.nowMs := rfl
@[simp] theorem respond_tickAgeMs (r : Response) (s : State) : (respond r s).tickAgeMs = s.tickAgeMs := rfl
@[simp] theorem respond_dev (r : Response) (s : State) : (respond r s).dev = s.dev := rfl
@[simp] theorem respond_lastMode (r : Response) (s : State) : (respond r s).lastMode = s.lastMode := rfl
@[simp] theorem respond_lastDisplayMode (r : Response) (s : State) : (respond r s).lastDisplayMode = s.lastDisplayMode := rfl
@[simp] theorem respond_rxState (r : Response) (s : State) : (respond r s).rxState = s.rxState := rfl
@[simp] theorem respond_rxBuf (r : Response) (s : State) : (respond r s).rxBuf = s.rxBuf := rfl
@[simp] theorem respond_rxCount (r : Response) (s : State) : (respond r s).rxCount = s.rxCount := rfl
@[simp] theorem respond_rxNeed (r : Response) (s : State) : (respond r s).rxNeed = s.rxNeed := rfl
@[simp] theorem respond_lastByteMs (r : Response) (s : State) : (respond r s).lastByteMs = s.lastByteMs := rfl
@[simp] theorem respond_link (r : Response) (s : State) : (respond r s).link = s.link := rfl
@[simp] theorem respond_pending (r : Response) (s : State) : (respond r s).pending = s.pending := rfl
@[simp] theorem respond_awaiting (r : Response) (s : State) : (respond r s).awaiting = s.awaiting := rfl
@[simp] theorem respond_lastValidMs (r : Response) (s : State) : (respond r s).lastValidMs = s.lastValidMs := rfl
@[simp] theorem respond_lastTxMs (r : Response) (s : State) : (respond r s).lastTxMs = s.lastTxMs := rfl
@[simp] theorem respond_resp (r : Response) (s : State) : (respond r s).resp = r := rfl
@[simp] theorem respond_tx (r : Response) (s : State) : (respond r s).tx = none := rfl

/-! ### emptyReceiver -/

@[simp] theorem emptyReceiver_cfg (r : ReceiveState) (s : State) : (emptyReceiver r s).cfg = s.cfg := rfl
@[simp] theorem emptyReceiver_port (r : ReceiveState) (s : State) : (emptyReceiver r s).port = s.port := rfl
@[simp] theorem emptyReceiver_nowMs (r : ReceiveState) (s : State) : (emptyReceiver r s).nowMs = s.nowMs := rfl
@[simp] theorem emptyReceiver_tickAgeMs (r : ReceiveState) (s : State) : (emptyReceiver r s).tickAgeMs = s.tickAgeMs := rfl
@[simp] theorem emptyReceiver_dev (r : ReceiveState) (s : State) : (emptyReceiver r s).dev = s.dev := rfl
@[simp] theorem emptyReceiver_lastMode (r : ReceiveState) (s : State) : (emptyReceiver r s).lastMode = s.lastMode := rfl
@[simp] theorem emptyReceiver_lastDisplayMode (r : ReceiveState) (s : State) : (emptyReceiver r s).lastDisplayMode = s.lastDisplayMode := rfl
@[simp] theorem emptyReceiver_rxState (r : ReceiveState) (s : State) : (emptyReceiver r s).rxState = r := rfl
@[simp] theorem emptyReceiver_rxBuf (r : ReceiveState) (s : State) : (emptyReceiver r s).rxBuf = s.rxBuf := rfl
@[simp] theorem emptyReceiver_rxCount (r : ReceiveState) (s : State) : (emptyReceiver r s).rxCount = 0 := rfl
@[simp] theorem emptyReceiver_rxNeed (r : ReceiveState) (s : State) : (emptyReceiver r s).rxNeed = 0 := rfl
@[simp] theorem emptyReceiver_lastByteMs (r : ReceiveState) (s : State) : (emptyReceiver r s).lastByteMs = s.lastByteMs := rfl
@[simp] theorem emptyReceiver_link (r : ReceiveState) (s : State) : (emptyReceiver r s).link = s.link := rfl
@[simp] theorem emptyReceiver_pending (r : ReceiveState) (s : State) : (emptyReceiver r s).pending = s.pending := rfl
@[simp] theorem emptyReceiver_awaiting (r : ReceiveState) (s : State) : (emptyReceiver r s).awaiting = s.awaiting := rfl
@[simp] theorem emptyReceiver_lastValidMs (r : ReceiveState) (s : State) : (emptyReceiver r s).lastValidMs = s.lastValidMs := rfl
@[simp] theorem emptyReceiver_lastTxMs (r : ReceiveState) (s : State) : (emptyReceiver r s).lastTxMs = s.lastTxMs := rfl
@[simp] theorem emptyReceiver_resp (r : ReceiveState) (s : State) : (emptyReceiver r s).resp = s.resp := rfl
@[simp] theorem emptyReceiver_tx (r : ReceiveState) (s : State) : (emptyReceiver r s).tx = s.tx := rfl

/-! ### acceptReport -/

@[simp] theorem acceptReport_cfg (s : State) : (acceptReport s).cfg = s.cfg := rfl
@[simp] theorem acceptReport_port (s : State) : (acceptReport s).port = s.port := rfl
@[simp] theorem acceptReport_nowMs (s : State) : (acceptReport s).nowMs = s.nowMs := rfl
@[simp] theorem acceptReport_tickAgeMs (s : State) : (acceptReport s).tickAgeMs = s.tickAgeMs := rfl
@[simp] theorem acceptReport_dev (s : State) : (acceptReport s).dev = s.dev := rfl
@[simp] theorem acceptReport_lastMode (s : State) : (acceptReport s).lastMode = s.lastMode := rfl
@[simp] theorem acceptReport_lastDisplayMode (s : State) : (acceptReport s).lastDisplayMode = s.lastDisplayMode := rfl
@[simp] theorem acceptReport_rxState (s : State) : (acceptReport s).rxState = s.rxState := rfl
@[simp] theorem acceptReport_rxBuf (s : State) : (acceptReport s).rxBuf = s.rxBuf := rfl
@[simp] theorem acceptReport_rxCount (s : State) : (acceptReport s).rxCount = s.rxCount := rfl
@[simp] theorem acceptReport_rxNeed (s : State) : (acceptReport s).rxNeed = s.rxNeed := rfl
@[simp] theorem acceptReport_lastByteMs (s : State) : (acceptReport s).lastByteMs = s.lastByteMs := rfl
@[simp] theorem acceptReport_link (s : State) : (acceptReport s).link = .ready := rfl
@[simp] theorem acceptReport_pending (s : State) : (acceptReport s).pending = s.pending := rfl
@[simp] theorem acceptReport_awaiting (s : State) : (acceptReport s).awaiting = false := rfl
@[simp] theorem acceptReport_lastValidMs (s : State) : (acceptReport s).lastValidMs = s.nowMs := rfl
@[simp] theorem acceptReport_lastTxMs (s : State) : (acceptReport s).lastTxMs = s.lastTxMs := rfl
@[simp] theorem acceptReport_resp (s : State) : (acceptReport s).resp = s.resp := rfl
@[simp] theorem acceptReport_tx (s : State) : (acceptReport s).tx = s.tx := rfl

/-! ### transmit -/

@[simp] theorem transmit_cfg (s : State) : (transmit s).cfg = s.cfg := rfl
@[simp] theorem transmit_port (s : State) : (transmit s).port = s.port := rfl
@[simp] theorem transmit_nowMs (s : State) : (transmit s).nowMs = s.nowMs := rfl
@[simp] theorem transmit_tickAgeMs (s : State) : (transmit s).tickAgeMs = s.tickAgeMs := rfl
@[simp] theorem transmit_dev (s : State) : (transmit s).dev = s.dev := rfl
@[simp] theorem transmit_lastMode (s : State) : (transmit s).lastMode = s.lastMode := rfl
@[simp] theorem transmit_lastDisplayMode (s : State) : (transmit s).lastDisplayMode = s.lastDisplayMode := rfl
@[simp] theorem transmit_rxState (s : State) : (transmit s).rxState = s.rxState := rfl
@[simp] theorem transmit_rxBuf (s : State) : (transmit s).rxBuf = s.rxBuf := rfl
@[simp] theorem transmit_rxCount (s : State) : (transmit s).rxCount = s.rxCount := rfl
@[simp] theorem transmit_rxNeed (s : State) : (transmit s).rxNeed = s.rxNeed := rfl
@[simp] theorem transmit_lastByteMs (s : State) : (transmit s).lastByteMs = s.lastByteMs := rfl
@[simp] theorem transmit_link (s : State) : (transmit s).link = s.link := rfl
@[simp] theorem transmit_pending (s : State) : (transmit s).pending = nextPending s.pending := rfl
@[simp] theorem transmit_awaiting (s : State) : (transmit s).awaiting = true := rfl
@[simp] theorem transmit_lastValidMs (s : State) : (transmit s).lastValidMs = s.lastValidMs := rfl
@[simp] theorem transmit_lastTxMs (s : State) : (transmit s).lastTxMs = s.nowMs := rfl
@[simp] theorem transmit_resp (s : State) : (transmit s).resp = s.resp := rfl
@[simp] theorem transmit_tx (s : State) : (transmit s).tx = s.tx := rfl

/-! ### resetRegisters -/

@[simp] theorem resetRegisters_cfg (s : State) : (resetRegisters s).cfg = s.cfg := rfl
@[simp] theorem resetRegisters_port (s : State) : (resetRegisters s).port = s.port := rfl
@[simp] theorem resetRegisters_nowMs (s : State) : (resetRegisters s).nowMs = s.nowMs := rfl
@[simp] theorem resetRegisters_tickAgeMs (s : State) : (resetRegisters s).tickAgeMs = s.tickAgeMs := rfl
@[simp] theorem resetRegisters_dev (s : State) : (resetRegisters s).dev = .reset := rfl
@[simp] theorem resetRegisters_lastMode (s : State) : (resetRegisters s).lastMode = .auto := rfl
@[simp] theorem resetRegisters_lastDisplayMode (s : State) : (resetRegisters s).lastDisplayMode = .auto := rfl
@[simp] theorem resetRegisters_rxState (s : State) : (resetRegisters s).rxState = .awaitingSync := rfl
@[simp] theorem resetRegisters_rxBuf (s : State) : (resetRegisters s).rxBuf = [] := rfl
@[simp] theorem resetRegisters_rxCount (s : State) : (resetRegisters s).rxCount = 0 := rfl
@[simp] theorem resetRegisters_rxNeed (s : State) : (resetRegisters s).rxNeed = 0 := rfl
@[simp] theorem resetRegisters_lastByteMs (s : State) : (resetRegisters s).lastByteMs = 0 := rfl
@[simp] theorem resetRegisters_link (s : State) : (resetRegisters s).link = .initializing := rfl
@[simp] theorem resetRegisters_pending (s : State) : (resetRegisters s).pending = .none := rfl
@[simp] theorem resetRegisters_awaiting (s : State) : (resetRegisters s).awaiting = false := rfl
@[simp] theorem resetRegisters_lastValidMs (s : State) : (resetRegisters s).lastValidMs = 0 := rfl
@[simp] theorem resetRegisters_lastTxMs (s : State) : (resetRegisters s).lastTxMs = 0 := rfl
@[simp] theorem resetRegisters_resp (s : State) : (resetRegisters s).resp = { status := .ok } := rfl
@[simp] theorem resetRegisters_tx (s : State) : (resetRegisters s).tx = none := rfl

end Sys2Proof.Machine
end

