-- ==== Sys2Proof/Laws/Ops.lean ====
section
/-! SUPPORT. What the shared operations can do, one lemma each: an operation turned away, a control request, an accepted
byte, the fetch, the step. -/

namespace Sys2Proof.Machine

/-- An operation turned away answers a next state that differs in the outputs alone. -/
theorem turnAway_eq (st : Status) (s : State) :
    turnAway st s = .next { s with resp := { status := st }, tx := none } := rfl

theorem request_ready {body : State → State} {s : State} (h : s.link = .ready) :
    request body s = .next (respond { status := .ok } { body s with pending := .started }) := by
  simp [request, h]

theorem request_initializing {body : State → State} {s : State} (h : s.link = .initializing) :
    request body s = turnAway .notReady s := by
  simp [request, h]

/-- A control request answers a next state: NOT_READY and nothing else, or the body's write with pending Started. -/
theorem request_cases {body : State → State} {s t : State} (h : request body s = .next t) :
    (s.link = .initializing ∧ t = { s with resp := { status := .notReady }, tx := none }) ∨
    (s.link = .ready ∧ t = respond { status := .ok } { body s with pending := .started }) := by
  rcases hl : s.link with _ | _
  · rw [request_initializing hl, turnAway_eq] at h
    exact .inl ⟨rfl, by rw [← Host.Outcome.next.inj h, hl]⟩
  · rw [request_ready hl] at h
    exact .inr ⟨rfl, (Host.Outcome.next.inj h).symm⟩

theorem accepted_eq (st : ReceiveState) (buf : Memory) (count need : Nat) (s : State) :
    accepted st buf count need s =
      .next
        { s with
          rxState := st, rxBuf := buf, rxCount := count, rxNeed := need, lastByteMs := s.nowMs
          resp := { status := .ok }, tx := none } := rfl

/-- What the fetch can do when it answers: the configuration is valid, the oldest command is taken within the host's
time duties, its time is sampled and its word decoded. -/
theorem fetch_next {s : State} {f : Fetched} (h : fetch s = .next f) :
    ∃ cmd rest, configValid s.cfg = true ∧ s.port = cmd :: rest ∧ ageAt s cmd.nowMs < tickLimit ∧
      f.instr = decode s.cfg cmd.word ∧
      f.state =
        { s with
          port := rest, nowMs := cmd.nowMs
          tickAgeMs := some (ageAfter (decode s.cfg cmd.word) (ageAt s cmd.nowMs)) } := by
  unfold fetch at h
  split at h
  · split at h <;> cases h
  · rename_i cmd rest hp
    split at h
    · rename_i hc
      dsimp only at h
      split at h
      · rename_i ha
        cases h
        exact ⟨cmd, rest, hc, hp, ha, rfl, rfl⟩
      · cases h
    · cases h

/-- The fetch answers whenever the configuration is valid, a command waits and the host's time duties hold. -/
theorem fetch_eq {s : State} {cmd : Command} {rest : List Command} (hc : configValid s.cfg = true)
    (hp : s.port = cmd :: rest) (ha : ageAt s cmd.nowMs < tickLimit) :
    fetch s =
      .next ⟨decode s.cfg cmd.word,
        { s with
          port := rest, nowMs := cmd.nowMs
          tickAgeMs := some (ageAfter (decode s.cfg cmd.word) (ageAt s cmd.nowMs)) }⟩ := by
  simp [fetch, hc, hp, ha]

/-- The three stops of the fetch. -/
theorem fetch_badConfiguration {s : State} (h : configValid s.cfg = false) :
    fetch s = .refused .badConfiguration := by
  unfold fetch
  cases s.port <;> simp [h]

theorem fetch_noCommand {s : State} (hc : configValid s.cfg = true) (hp : s.port = []) :
    fetch s = .fault .noCommand := by
  simp [fetch, hc, hp]

theorem fetch_hostTimeDuty {s : State} {cmd : Command} {rest : List Command} (hc : configValid s.cfg = true)
    (hp : s.port = cmd :: rest) (ha : ¬ageAt s cmd.nowMs < tickLimit) : fetch s = .refused .hostTimeDuty := by
  simp [fetch, hc, hp, ha]

/-- The clock's check, in the terms of the host's duty (70_reset_and_hazards.md R331). -/
theorem ageAt_lt {s : State} {now : Time}
    (h : ∀ a, s.tickAgeMs = some a → a + (now - s.nowMs).toNat < 2 ^ 31) : ageAt s now < tickLimit := by
  unfold ageAt tickLimit
  cases ha : s.tickAgeMs with
  | none => exact Nat.two_pow_pos 31
  | some a => exact h a ha

/-! ### Command words as an op byte and an arg byte -/

theorem opOf_append (op arg : Byte) : opOf (op ++ arg) = op := BitVec.extractLsb'_append_eq_left

theorem argOf_append (op arg : Byte) : argOf (op ++ arg) = arg := BitVec.extractLsb'_append_eq_right

theorem opOf_toNat (w : Word) : (opOf w).toNat = w.toNat / 256 := by
  have := w.isLt
  rw [opOf, BitVec.extractLsb'_toNat, Nat.shiftRight_eq_div_pow]
  omega

theorem argOf_toNat (w : Word) : (argOf w).toNat = w.toNat % 256 := by
  rw [argOf, BitVec.extractLsb'_toNat, Nat.shiftRight_eq_div_pow]
  simp

/-- A word is its op byte followed by its arg byte (30_encoding.md R80). -/
theorem word_split (w : Word) : w = opOf w ++ argOf w := by
  apply BitVec.eq_of_toNat_eq
  rw [BitVec.toNat_append, opOf_toNat, argOf_toNat, ← Nat.shiftLeft_add_eq_or_of_lt (by omega)]
  omega

/-! ### The step over the outcome of the fetch -/

theorem step_of_operation {s : State} {f : Fetched} {i : Instr} (hf : fetch s = .next f) (hi : f.instr = .ok i) :
    step s = exec i f.state := by
  unfold step
  rw [hf]
  dsimp only
  rw [hi]

theorem step_of_refusedWord {s : State} {f : Fetched} {e : WordError} (hf : fetch s = .next f)
    (he : f.instr = .error e) : step s = refuseWord e f.state := by
  unfold step
  rw [hf]
  dsimp only
  rw [he]

theorem step_of_fault {s : State} {r : Fault} (hf : fetch s = .fault r) : step s = .fault r := by
  unfold step
  rw [hf]

theorem step_of_refused {s : State} {r : Refusal} (hf : fetch s = .refused r) : step s = .refused r := by
  unfold step
  rw [hf]

/-- What a step can do when it answers: it runs the decoded operation, or turns the word away. -/
theorem step_next {s t : State} (h : step s = .next t) :
    ∃ f, fetch s = .next f ∧
      ((∃ i, f.instr = .ok i ∧ exec i f.state = .next t) ∨
        (∃ e, f.instr = .error e ∧ t = respond { status := WordError.status e } f.state)) := by
  unfold step at h
  split at h
  · rename_i f hf
    refine ⟨f, hf, ?_⟩
    split at h
    · rename_i i hi
      exact .inl ⟨i, hi, h⟩
    · rename_i e he
      cases h
      exact .inr ⟨e, he, rfl⟩
  · cases h
  · cases h

end Sys2Proof.Machine
end

