-- ==== Sys2Proof/Laws/Exec.lean ====
section
/-! SUPPORT. What each operation can do when it answers a next state, one inversion lemma each: later proofs cite these
and unfold no meaning. -/

namespace Sys2Proof.Machine

/-- What FEED stores, and the receiver registers it leaves (40_receiver.md R122 to R125). -/
inductive FeedCase (b : Byte) (s : State) : ReceiveState → Memory → Nat → Nat → Prop where
  | firstSync : s.rxState = .awaitingSync → s.rxCount = 0 → b = sync →
      FeedCase b s .awaitingSync (Memory.write s.rxBuf 0 b) 1 s.rxNeed
  | noise : s.rxState = .awaitingSync → s.rxCount = 0 → b ≠ sync → FeedCase b s .awaitingSync s.rxBuf 0 s.rxNeed
  | secondSync : s.rxState = .awaitingSync → s.rxCount ≠ 0 → b = sync →
      FeedCase b s .receiving (Memory.write s.rxBuf 1 b) 2 s.rxNeed
  | brokenPair : s.rxState = .awaitingSync → s.rxCount ≠ 0 → b ≠ sync →
      FeedCase b s .awaitingSync s.rxBuf 0 s.rxNeed
  | length : s.rxState = .receiving → s.rxCount = 2 →
      FeedCase b s (stateAtCount 3 (frameLen s.cfg b)) (Memory.write s.rxBuf 2 b) 3 (frameLen s.cfg b)
  | data : s.rxState = .receiving → s.rxCount ≠ 2 → s.rxCount < rxCap →
      FeedCase b s (stateAtCount (s.rxCount + 1) s.rxNeed) (Memory.write s.rxBuf s.rxCount b) (s.rxCount + 1)
        s.rxNeed

/-- FEED, when it answers: BUSY, or one of the six ways of taking the byte. -/
theorem execFeed_cases {b : Byte} {s t : State} (h : execFeed b s = .next t) :
    ((s.rxState = .complete ∨ s.rxState = .restart) ∧ t = { s with resp := { status := .busy }, tx := none }) ∨
    (∃ st buf count need, FeedCase b s st buf count need ∧
      t = { s with
        rxState := st, rxBuf := buf, rxCount := count, rxNeed := need, lastByteMs := s.nowMs
        resp := { status := .ok }, tx := none }) := by
  unfold execFeed at h
  split at h
  · rename_i hs
    cases h
    exact .inl ⟨.inl hs, rfl⟩
  · rename_i hs
    cases h
    exact .inl ⟨.inr hs, rfl⟩
  · rename_i hs
    unfold feedAwaiting at h
    refine .inr ?_
    split_ifs at h with h0 hb hb
    · cases h
      exact ⟨_, _, _, _, .firstSync hs h0 hb, rfl⟩
    · cases h
      exact ⟨_, _, _, _, .noise hs h0 hb, by rw [h0]; rfl⟩
    · cases h
      exact ⟨_, _, _, _, .secondSync hs h0 hb, rfl⟩
    · cases h
      exact ⟨_, _, _, _, .brokenPair hs h0 hb, rfl⟩
  · rename_i hs
    unfold feedReceiving at h
    refine .inr ?_
    split_ifs at h with hc
    dsimp only at h
    by_cases h2 : s.rxCount = 2
    · have h3 : s.rxCount + 1 = 3 := by omega
      rw [if_pos h3, h3, h2] at h
      cases h
      exact ⟨_, _, _, _, .length hs h2, rfl⟩
    · have h3 : ¬s.rxCount + 1 = 3 := by omega
      rw [if_neg h3] at h
      cases h
      exact ⟨_, _, _, _, .data hs h2 hc, rfl⟩

/-- POLL, when it answers: a rejected frame, an accepted report, the event Restart, or no event. -/
theorem execPoll_cases {s t : State} (h : execPoll s = .next t) :
    (s.rxState = .complete ∧ s.rxNeed ≤ rxCap ∧ ∃ r, r ≠ .ok ∧
      verify s.cfg (Memory.readRange s.rxBuf s.rxNeed) = r ∧
      t = { s with
        rxState := .awaitingSync, rxCount := 0, rxNeed := 0, resp := { status := r, event := .complete }
        tx := none }) ∨
    (s.rxState = .complete ∧ s.rxNeed ≤ rxCap ∧ verify s.cfg (Memory.readRange s.rxBuf s.rxNeed) = .ok ∧
      ∃ d, d = decodeReport (bodyOf (Memory.readRange s.rxBuf s.rxNeed)) s ∧
      t = { s with
        rxState := .awaitingSync, rxCount := 0, rxNeed := 0
        dev := d.dev, lastMode := d.lastMode, lastDisplayMode := d.lastDisplayMode
        link := .ready, lastValidMs := s.nowMs, awaiting := false
        resp :=
          { status := .ok, event := .complete, changed := changedFlag s.dev d.dev, warnings := d.warnings }
        tx := none }) ∨
    (s.rxState = .restart ∧
      t = { s with
        rxState := .awaitingSync, resp := { status := .framingStall, event := .restart }, tx := none }) ∨
    ((s.rxState = .awaitingSync ∨ s.rxState = .receiving) ∧ t = { s with resp := { status := .ok }, tx := none }) := by
  unfold execPoll at h
  split at h
  · rename_i hs
    unfold pollComplete at h
    split_ifs at h with hc
    dsimp only at h
    split at h
    · rename_i hv
      cases h
      exact .inr (.inl ⟨hs, hc, hv, _, rfl, rfl⟩)
    · rename_i r hr hv
      cases h
      exact .inl ⟨hs, hc, _, hv, rfl, rfl⟩
  · rename_i hs
    cases h
    exact .inr (.inr (.inl ⟨hs, rfl⟩))
  · rename_i hs
    cases h
    exact .inr (.inr (.inr ⟨.inl hs, rfl⟩))
  · rename_i hs
    cases h
    exact .inr (.inr (.inr ⟨.inr hs, rfl⟩))

/-- The stall check changes the three receiver registers at most. -/
theorem stallCheck_eq (s : State) :
    stallCheck s =
      { s with
        rxState := if stalled s then .restart else s.rxState
        rxCount := if stalled s then 0 else s.rxCount
        rxNeed := if stalled s then 0 else s.rxNeed } := by
  unfold stallCheck
  split_ifs <;> rfl

/-- When the link check, the throttle and the frame look at a state, the stall check has changed nothing they see. -/
theorem linkExpired_stallCheck (s : State) : linkExpired (stallCheck s) = linkExpired s := by
  rw [stallCheck_eq]; rfl

theorem throttleOk_stallCheck (s : State) : throttleOk (stallCheck s) = throttleOk s := by
  rw [stallCheck_eq]; rfl

theorem txFrame_stallCheck (s : State) : txFrame (stallCheck s) = txFrame s := by
  rw [stallCheck_eq]; rfl

/-- TICK that drops the link. -/
theorem execTick_dropped {s : State} (h : linkExpired s = true) :
    execTick s = .next
      { stallCheck s with
        link := .initializing, pending := .none, awaiting := false
        resp := { status := .ok, linkDropped := true }, tx := none } := by
  have h₁ : linkExpired (stallCheck s) = true := by rw [linkExpired_stallCheck, h]
  have h₂ : linkCheck (stallCheck s) =
      { stallCheck s with link := .initializing, pending := .none, awaiting := false } := by
    unfold linkCheck; rw [if_pos h₁]
  have h₃ : transmits (linkCheck (stallCheck s)) = false := by rw [h₂]; rfl
  unfold execTick
  dsimp only
  rw [h₃, h₁, h₂]
  rfl

/-- TICK that keeps the link and transmits. -/
theorem execTick_transmits {s : State} (h : linkExpired s = false) (hr : s.link = .ready)
    (ht : throttleOk s = true) :
    execTick s = .next
      { stallCheck s with
        pending := nextPending s.pending, awaiting := true, lastTxMs := s.nowMs
        resp := { status := .ok, txSent := true }, tx := some (txFrame s) } := by
  have h₁ : linkExpired (stallCheck s) = false := by rw [linkExpired_stallCheck, h]
  have h₂ : linkCheck (stallCheck s) = stallCheck s := by
    unfold linkCheck; rw [if_neg (by rw [h₁]; decide)]
  have h₃ : transmits (stallCheck s) = true := by
    unfold transmits
    rw [throttleOk_stallCheck, ht, stallCheck_eq]
    simp [hr]
  unfold execTick
  dsimp only
  rw [h₂, h₃, h₁, if_pos rfl, txFrame_stallCheck, stallCheck_eq]
  rfl

/-- TICK that keeps the link and does not transmit. -/
theorem execTick_holds {s : State} (h : linkExpired s = false) (ht : s.link = .initializing ∨ throttleOk s = false) :
    execTick s = .next { stallCheck s with resp := { status := .ok }, tx := none } := by
  have h₁ : linkExpired (stallCheck s) = false := by rw [linkExpired_stallCheck, h]
  have h₂ : linkCheck (stallCheck s) = stallCheck s := by
    unfold linkCheck; rw [if_neg (by rw [h₁]; decide)]
  have h₃ : transmits (stallCheck s) = false := by
    unfold transmits
    rw [throttleOk_stallCheck, stallCheck_eq]
    rcases ht with ht | ht <;> simp [ht]
  unfold execTick
  dsimp only
  rw [h₂, h₃, h₁]
  rfl

/-- The three ways of TICK: it always answers. -/
theorem execTick_cases (s : State) :
    (linkExpired s = true ∧ execTick s = .next
      { stallCheck s with
        link := .initializing, pending := .none, awaiting := false
        resp := { status := .ok, linkDropped := true }, tx := none }) ∨
    (linkExpired s = false ∧ s.link = .ready ∧ throttleOk s = true ∧ execTick s = .next
      { stallCheck s with
        pending := nextPending s.pending, awaiting := true, lastTxMs := s.nowMs
        resp := { status := .ok, txSent := true }, tx := some (txFrame s) }) ∨
    (linkExpired s = false ∧ (s.link = .initializing ∨ throttleOk s = false) ∧
      execTick s = .next { stallCheck s with resp := { status := .ok }, tx := none }) := by
  cases he : linkExpired s with
  | true => exact .inl ⟨rfl, execTick_dropped he⟩
  | false =>
    cases hl : s.link with
    | initializing => exact .inr (.inr ⟨rfl, .inl rfl, execTick_holds he (.inl hl)⟩)
    | ready =>
      cases ht : throttleOk s with
      | true => exact .inr (.inl ⟨rfl, rfl, rfl, execTick_transmits he hl ht⟩)
      | false => exact .inr (.inr ⟨rfl, .inr rfl, execTick_holds he (.inr ht)⟩)

theorem linkExpired_iff {s : State} :
    linkExpired s = true ↔ s.link = .ready ∧ 1000 < (s.nowMs - s.lastValidMs).toNat := by
  simp only [linkExpired, Bool.and_eq_true, decide_eq_true_eq]
  rfl

theorem throttleOk_iff {s : State} :
    throttleOk s = true ↔ s.awaiting = false ∨ s.cfg.tTxMin ≤ (s.nowMs - s.lastTxMs).toNat := by
  simp only [throttleOk, Bool.or_eq_true, Bool.not_eq_true', decide_eq_true_eq]
  rfl

theorem stalled_iff {s : State} :
    stalled s = true ↔ ∃ gap, s.cfg.tGap = some gap ∧
      ((s.rxState = .awaitingSync ∧ s.rxCount = 1) ∨ s.rxState = .receiving) ∧
      gap < (s.nowMs - s.lastByteMs).toNat := by
  unfold stalled
  cases s.cfg.tGap with
  | none => simp only [Bool.false_eq_true, reduceCtorEq, false_and, exists_false]
  | some gap =>
    simp only [Bool.and_eq_true, Bool.or_eq_true, decide_eq_true_eq, Option.some.injEq, exists_eq_left']
    rfl

/-- The control requests. -/
def isRequest : Instr → Bool
  | .feed _ => false
  | .poll => false
  | .restart => false
  | .tick => false
  | .reset => false
  | _ => true

/-- How a control request answers: turned away with nothing changed, or accepted while Ready; then it has written
DeviceState and the retention registers, and nothing it writes breaks their ranges. -/
def RequestAnswers (s : State) (r : Result) : Prop :=
  (∃ st, (st = .notReady ∧ s.link = .initializing ∨ st = .illegalOperand) ∧
    r = .next { s with resp := { status := st }, tx := none }) ∨
  (s.link = .ready ∧ ∃ dev lm ld,
    r = .next
      { s with
        dev := dev, lastMode := lm, lastDisplayMode := ld, pending := .started
        resp := { status := .ok }, tx := none } ∧
    dev.currentTemperature = s.dev.currentTemperature ∧
    (16 ≤ s.dev.targetTemperature ∧ s.dev.targetTemperature ≤ 30 →
      16 ≤ dev.targetTemperature ∧ dev.targetTemperature ≤ 30) ∧
    ((s.dev.mode ≠ .off → s.dev.power = true) → dev.mode ≠ .off → dev.power = true) ∧
    (s.dev.verticalSwing ∈ s.cfg.vswing.map (fun e => e.pos) →
      dev.verticalSwing ∈ s.cfg.vswing.map (fun e => e.pos)) ∧
    (s.dev.horizontalSwing ∈ s.cfg.hswing.map (fun e => e.pos) →
      dev.horizontalSwing ∈ s.cfg.hswing.map (fun e => e.pos)))

theorem request_answers {body : State → State} {s : State}
    (hb : body s =
      { s with dev := (body s).dev, lastMode := (body s).lastMode, lastDisplayMode := (body s).lastDisplayMode })
    (hc : (body s).dev.currentTemperature = s.dev.currentTemperature)
    (ht : 16 ≤ s.dev.targetTemperature ∧ s.dev.targetTemperature ≤ 30 →
      16 ≤ (body s).dev.targetTemperature ∧ (body s).dev.targetTemperature ≤ 30)
    (hm : (s.dev.mode ≠ .off → s.dev.power = true) → (body s).dev.mode ≠ .off → (body s).dev.power = true)
    (hv : s.dev.verticalSwing ∈ s.cfg.vswing.map (fun e => e.pos) →
      (body s).dev.verticalSwing ∈ s.cfg.vswing.map (fun e => e.pos))
    (hh : s.dev.horizontalSwing ∈ s.cfg.hswing.map (fun e => e.pos) →
      (body s).dev.horizontalSwing ∈ s.cfg.hswing.map (fun e => e.pos)) :
    RequestAnswers s (request body s) := by
  cases hl : s.link with
  | initializing => exact .inl ⟨_, .inl ⟨rfl, hl⟩, by rw [request_initializing hl, turnAway_eq]⟩
  | ready =>
    refine .inr ⟨hl, (body s).dev, (body s).lastMode, (body s).lastDisplayMode, ?_, hc, ht, hm, hv, hh⟩
    rw [request_ready hl]
    rw [hb]
    rfl

/-- A swing request whose index is in its set is a control request of the shared form. -/
theorem execSetVswing_some {n : Byte} {s : State} {p : SwingPos} (hp : swingAt s.cfg.vswing n = some p) :
    execSetVswing n s = request (fun s => { s with dev := { s.dev with verticalSwing := p } }) s := by
  unfold execSetVswing
  rw [hp]

theorem execSetHswing_some {n : Byte} {s : State} {p : SwingPos} (hp : swingAt s.cfg.hswing n = some p) :
    execSetHswing n s = request (fun s => { s with dev := { s.dev with horizontalSwing := p } }) s := by
  unfold execSetHswing
  rw [hp]

/-- A control request always answers, as RequestAnswers says. -/
theorem execRequest_answers {i : Instr} {s : State} (hi : isRequest i = true) : RequestAnswers s (exec i s) := by
  cases i with
  | feed b => cases hi
  | poll => cases hi
  | restart => cases hi
  | tick => cases hi
  | reset => cases hi
  | setMode m =>
    show RequestAnswers s (execSetMode m s)
    unfold execSetMode
    exact request_answers rfl rfl id (fun _ hm => decide_eq_true hm) id id
  | setTemp v =>
    show RequestAnswers s (execSetTemp v s)
    unfold execSetTemp
    refine request_answers rfl rfl (fun _ => ?_) id id id
    show 16 ≤ min (max v.toNat 16) 30 ∧ min (max v.toNat 16) 30 ≤ 30
    omega
  | setFan f =>
    show RequestAnswers s (execSetFan f s)
    unfold execSetFan
    exact request_answers rfl rfl id id id id
  | setVswing n =>
    show RequestAnswers s (execSetVswing n s)
    unfold execSetVswing
    cases hp : swingAt s.cfg.vswing n with
    | none => exact .inl ⟨.illegalOperand, .inr rfl, rfl⟩
    | some p => exact request_answers rfl rfl id id (fun _ => swingAt_mem hp) id
  | setHswing n =>
    show RequestAnswers s (execSetHswing n s)
    unfold execSetHswing
    cases hp : swingAt s.cfg.hswing n with
    | none => exact .inl ⟨.illegalOperand, .inr rfl, rfl⟩
    | some p => exact request_answers rfl rfl id id id (fun _ => swingAt_mem hp)
  | setDisplay d =>
    show RequestAnswers s (execSetDisplay d s)
    unfold execSetDisplay
    exact request_answers rfl rfl id id id id
  | setUnit u =>
    show RequestAnswers s (execSetUnit u s)
    unfold execSetUnit
    exact request_answers rfl rfl id id id id
  | setPlasma x =>
    show RequestAnswers s (execSetPlasma x s)
    unfold execSetPlasma
    exact request_answers rfl rfl id id id id
  | setSleep x =>
    show RequestAnswers s (execSetSleep x s)
    unfold execSetSleep
    exact request_answers rfl rfl id id id id
  | setXfan x =>
    show RequestAnswers s (execSetXfan x s)
    unfold execSetXfan
    exact request_answers rfl rfl id id id id
  | setSave x =>
    show RequestAnswers s (execSetSave x s)
    unfold execSetSave
    exact request_answers rfl rfl id id id id

/-- No operation writes the configuration, the port, or the sampled time. -/
theorem exec_frame {i : Instr} {s t : State} (h : exec i s = .next t) :
    t.cfg = s.cfg ∧ t.port = s.port ∧ t.nowMs = s.nowMs ∧ t.tickAgeMs = s.tickAgeMs := by
  cases hi : isRequest i with
  | true =>
    rcases execRequest_answers (s := s) hi with ⟨st, -, e⟩ | ⟨-, dev, lm, ld, e, -⟩ <;> rw [h] at e <;> cases e <;>
      exact ⟨rfl, rfl, rfl, rfl⟩
  | false =>
    cases i <;> simp only [isRequest, Bool.true_eq_false] at hi
    · rcases execFeed_cases h with ⟨-, rfl⟩ | ⟨st, buf, count, need, -, rfl⟩ <;> exact ⟨rfl, rfl, rfl, rfl⟩
    · rcases execPoll_cases h with ⟨-, -, r, -, -, rfl⟩ | ⟨-, -, -, d, -, rfl⟩ | ⟨-, rfl⟩ | ⟨-, rfl⟩ <;>
        exact ⟨rfl, rfl, rfl, rfl⟩
    · cases h
      exact ⟨rfl, rfl, rfl, rfl⟩
    · have h : execTick s = .next t := h
      rcases execTick_cases s with ⟨-, he⟩ | ⟨-, -, -, he⟩ | ⟨-, -, he⟩ <;> rw [he] at h <;> cases h <;>
        rw [stallCheck_eq] <;> exact ⟨rfl, rfl, rfl, rfl⟩
    · cases h
      exact ⟨rfl, rfl, rfl, rfl⟩

/-- A step that answers took the oldest command under a valid configuration; it ran the operation of its word, or
reported the word's refusal. -/
theorem step_cases {s t : State} (h : step s = .next t) :
    ∃ cmd rest age, s.port = cmd :: rest ∧ configValid s.cfg = true ∧
      ((∃ i, decode s.cfg cmd.word = .ok i ∧
          exec i { s with port := rest, nowMs := cmd.nowMs, tickAgeMs := age } = .next t) ∨
        (∃ e, decode s.cfg cmd.word = .error e ∧
          t = { s with
            port := rest, nowMs := cmd.nowMs, tickAgeMs := age
            resp := { status := WordError.status e }, tx := none })) := by
  obtain ⟨f, hf, hh⟩ := step_next h
  obtain ⟨cmd, rest, hc, hp, -, hi, hs⟩ := fetch_next hf
  refine ⟨cmd, rest, some (ageAfter (decode s.cfg cmd.word) (ageAt s cmd.nowMs)), hp, hc, ?_⟩
  rw [hi, hs] at hh
  exact hh

end Sys2Proof.Machine
end

