-- ==== Sys2Proof/Laws/Memory.lean ====
section
/-! SUPPORT. The receive buffer: writing keeps the canonical form, a read after a write, and equal buffers are equal
lists. -/

namespace Sys2Proof.Machine

/-- The bound below every index, as a plain inequality. -/
def Memory.above (lo : Option Nat) (i : Nat) : Prop := ∀ l, lo = some l → l < i

theorem Memory.wfAbove_cons {lo : Option Nat} {b : Nat} {w : Byte} {m : Memory} :
    Memory.wfAbove lo ((b, w) :: m) = true ↔
      Memory.above lo b ∧ b < rxCap ∧ w ≠ 0 ∧ Memory.wfAbove (some b) m = true := by
  cases lo <;> simp [Memory.wfAbove, Memory.above, and_assoc]

theorem Memory.wfAbove_mono {lo : Option Nat} {b : Nat} {m : Memory} (hb : Memory.above lo b)
    (h : Memory.wfAbove (some b) m = true) : Memory.wfAbove lo m = true := by
  cases m with
  | nil => rfl
  | cons e m =>
    obtain ⟨h₁, h₂, h₃, h₄⟩ := Memory.wfAbove_cons.mp h
    exact Memory.wfAbove_cons.mpr ⟨fun l hl => (hb l hl).trans (h₁ b rfl), h₂, h₃, h₄⟩

theorem Memory.wfAbove_cons_byte {lo : Option Nat} {i : Nat} {v : Byte} {m : Memory} (hi : i < rxCap)
    (hlo : Memory.above lo i) (h : Memory.wfAbove (some i) m = true) :
    Memory.wfAbove lo (Memory.cons i v m) = true := by
  unfold Memory.cons
  split
  · exact Memory.wfAbove_mono hlo h
  · exact Memory.wfAbove_cons.mpr ⟨hlo, hi, ‹_›, h⟩

theorem Memory.wfAbove_write {m : Memory} {lo : Option Nat} {i : Nat} {v : Byte} (hi : i < rxCap)
    (hlo : Memory.above lo i) (h : Memory.wfAbove lo m = true) :
    Memory.wfAbove lo (Memory.write m i v) = true := by
  induction m generalizing lo with
  | nil => exact Memory.wfAbove_cons_byte hi hlo rfl
  | cons e m ih =>
    obtain ⟨b, w⟩ := e
    obtain ⟨h₁, h₂, h₃, h₄⟩ := Memory.wfAbove_cons.mp h
    simp only [Memory.write]
    split_ifs with hlt heq
    · exact Memory.wfAbove_cons_byte hi hlo
        (Memory.wfAbove_cons.mpr ⟨fun l hl => by simp only [Option.some.injEq] at hl; omega, h₂, h₃, h₄⟩)
    · subst heq
      exact Memory.wfAbove_cons_byte hi hlo h₄
    · exact Memory.wfAbove_cons.mpr
        ⟨h₁, h₂, h₃, ih (fun l hl => by simp only [Option.some.injEq] at hl; omega) h₄⟩

/-- A write inside the buffer keeps the canonical form. -/
theorem Memory.wf_write {m : Memory} {i : Nat} {v : Byte} (hi : i < rxCap) (h : Memory.wf m = true) :
    Memory.wf (Memory.write m i v) = true :=
  Memory.wfAbove_write hi (fun _ hl => nomatch hl) h

theorem Memory.read_of_not_above {m : Memory} {b i : Nat} (h : Memory.wfAbove (some b) m = true) (hi : i ≤ b) :
    Memory.read m i = 0 := by
  induction m generalizing b with
  | nil => rfl
  | cons e m ih =>
    obtain ⟨b', w⟩ := e
    obtain ⟨h₁, _, _, h₄⟩ := Memory.wfAbove_cons.mp h
    have : b < b' := h₁ b rfl
    simp only [Memory.read, if_neg (show ¬b' = i by omega)]
    exact ih h₄ (by omega)

theorem Memory.read_cons_byte {m : Memory} {i a : Nat} {v : Byte} (h : Memory.wfAbove (some i) m = true) :
    Memory.read (Memory.cons i v m) a = if a = i then v else Memory.read m a := by
  unfold Memory.cons
  split_ifs with hv ha ha
  · subst hv ha
    exact Memory.read_of_not_above h le_rfl
  · rfl
  · subst ha
    simp [Memory.read]
  · simp [Memory.read, Ne.symm ha]

theorem Memory.read_writeAbove {m : Memory} {lo : Option Nat} {i a : Nat} {v : Byte}
    (h : Memory.wfAbove lo m = true) :
    Memory.read (Memory.write m i v) a = if a = i then v else Memory.read m a := by
  induction m generalizing lo with
  | nil => exact Memory.read_cons_byte rfl
  | cons e m ih =>
    obtain ⟨b, w⟩ := e
    obtain ⟨h₁, h₂, h₃, h₄⟩ := Memory.wfAbove_cons.mp h
    have habove : ∀ {j : Nat}, j < b → Memory.wfAbove (some j) ((b, w) :: m) = true := fun hj =>
      Memory.wfAbove_cons.mpr ⟨fun l hl => by simp only [Option.some.injEq] at hl; omega, h₂, h₃, h₄⟩
    rcases lt_trichotomy i b with hlt | heq | hgt
    · rw [Memory.write, if_pos hlt, Memory.read_cons_byte (habove hlt)]
    · subst heq
      rw [Memory.write, if_neg (lt_irrefl _), if_pos rfl, Memory.read_cons_byte h₄]
      by_cases ha : a = i
      · simp [ha]
      · simp [ha, Memory.read, Ne.symm ha]
    · rw [Memory.write, if_neg (by omega), if_neg (by omega)]
      simp only [Memory.read, ih h₄]
      split_ifs <;> first | rfl | omega

/-- A read after a write: the byte written there, every other byte as before. -/
theorem Memory.read_write {m : Memory} {i a : Nat} {v : Byte} (h : Memory.wf m = true) :
    Memory.read (Memory.write m i v) a = if a = i then v else Memory.read m a :=
  Memory.read_writeAbove h

theorem Memory.wf_nil : Memory.wf [] = true := rfl

@[simp] theorem Memory.read_nil (i : Nat) : Memory.read [] i = 0 := rfl

@[simp] theorem Memory.length_readRange (m : Memory) (n : Nat) : (Memory.readRange m n).length = n := by
  simp [Memory.readRange]

end Sys2Proof.Machine
end

