-- ==== Sys2Proof/Laws/PerInstr.lean ====
section
/-! SUPPORT. Statements for all operations, made per operation. EncodedWord: the op byte and the arg byte of the word of
an operation, as the opcode table gives them (30_encoding.md R84, R85). -/

namespace Sys2Proof.Laws.EncodedWord

open Sys2Proof Sys2Proof.Machine

/-- The word has the op byte `op` and the arg byte `arg`. -/
def bytes (w : Word) (op arg : Nat) : Prop := w.toNat / 256 = op ∧ w.toNat % 256 = arg

/-- The op byte and the arg byte of an operation's word. -/
def Statement (i : Instr) : Prop :=
  match i with
  | .feed b => bytes (encode i) 0x01 b.toNat
  | .poll => bytes (encode i) 0x02 0
  | .restart => bytes (encode i) 0x03 0
  | .tick => bytes (encode i) 0x04 0
  | .reset => bytes (encode i) 0x05 0
  | .setMode m => bytes (encode i) 0x10 m.toPort
  | .setTemp v => bytes (encode i) 0x11 v.toNat
  | .setFan f => bytes (encode i) 0x12 f.toPort
  | .setVswing n => bytes (encode i) 0x13 n.toNat
  | .setHswing n => bytes (encode i) 0x14 n.toNat
  | .setDisplay d => bytes (encode i) 0x15 d.toPort
  | .setUnit u => bytes (encode i) 0x16 u.toPort
  | .setPlasma x => bytes (encode i) 0x17 (if x then 1 else 0)
  | .setSleep x => bytes (encode i) 0x18 (if x then 1 else 0)
  | .setXfan x => bytes (encode i) 0x19 (if x then 1 else 0)
  | .setSave x => bytes (encode i) 0x1A (if x then 1 else 0)

theorem bytes_append (op arg : Byte) : bytes (op ++ arg) op.toNat arg.toNat := by
  constructor
  · rw [← opOf_toNat, opOf_append]
  · rw [← argOf_toNat, argOf_append]

theorem feed (b : Byte) : Statement (.feed b) := bytes_append 0x01 b
theorem poll : Statement .poll := bytes_append 0x02 0
theorem restart : Statement .restart := bytes_append 0x03 0
theorem tick : Statement .tick := bytes_append 0x04 0
theorem reset : Statement .reset := bytes_append 0x05 0
theorem setMode (m : Mode) : Statement (.setMode m) := by
  cases m <;> exact bytes_append 0x10 _
theorem setTemp (v : Byte) : Statement (.setTemp v) := bytes_append 0x11 v
theorem setFan (f : Fan) : Statement (.setFan f) := by
  cases f <;> exact bytes_append 0x12 _
theorem setVswing (n : Byte) : Statement (.setVswing n) := bytes_append 0x13 n
theorem setHswing (n : Byte) : Statement (.setHswing n) := bytes_append 0x14 n
theorem setDisplay (d : Disp) : Statement (.setDisplay d) := by
  cases d <;> exact bytes_append 0x15 _
theorem setUnit (u : TempUnit) : Statement (.setUnit u) := by
  cases u <;> exact bytes_append 0x16 _
theorem setPlasma (x : Bool) : Statement (.setPlasma x) := by
  cases x <;> exact bytes_append 0x17 _
theorem setSleep (x : Bool) : Statement (.setSleep x) := by
  cases x <;> exact bytes_append 0x18 _
theorem setXfan (x : Bool) : Statement (.setXfan x) := by
  cases x <;> exact bytes_append 0x19 _
theorem setSave (x : Bool) : Statement (.setSave x) := by
  cases x <;> exact bytes_append 0x1A _

end Sys2Proof.Laws.EncodedWord
end

