-- ==== Sys2Proof/Machine/Assembler.lean ====
section
/-! DEFINITION. The assembler of host programs (30_encoding.md R100): one line `[@T] MNEMONIC [OPERAND]` gives the
commands it stands for. The machine does not depend on this file. -/

namespace Sys2Proof.Machine

/-! ### Words of a line -/

/-- The words of a line, cut at spaces and tabs; `word` is the word read so far, last character first. -/
def wordsFrom : List Char → List Char → List String
  | [], word => if word.isEmpty then [] else [String.ofList word.reverse]
  | ch :: chs, word =>
    if ch = ' ' ∨ ch = '\t' then
      if word.isEmpty then wordsFrom chs [] else String.ofList word.reverse :: wordsFrom chs []
    else wordsFrom chs (ch :: word)

/-- A comment starts with a semicolon. -/
def lineWords (line : String) : List String := wordsFrom (line.toList.takeWhile (· ≠ ';')) []

/-! ### Numbers -/

/-- The value of a digit in base 16. -/
def digit (ch : Char) : Option Nat :=
  if '0' ≤ ch ∧ ch ≤ '9' then some (ch.toNat - 48)
  else if 'a' ≤ ch ∧ ch ≤ 'f' then some (ch.toNat - 87)
  else if 'A' ≤ ch ∧ ch ≤ 'F' then some (ch.toNat - 55)
  else none

/-- The number whose digits in `base` are `chs`, after the value read so far. -/
def digitsFrom (base : Nat) : Nat → List Char → Option Nat
  | acc, [] => some acc
  | acc, ch :: chs =>
    match digit ch with
    | some d => if d < base then digitsFrom base (acc * base + d) chs else none
    | none => none

/-- A number in `base`, at least one digit. -/
def number (base : Nat) (chs : List Char) : Option Nat := if chs.isEmpty then none else digitsFrom base 0 chs

/-- A byte in hexadecimal, `0x7E`, or `7E` as the programs of 95_test_vectors.md write it (log entry 17). -/
def byteOf (w : String) : Option Byte :=
  let n := match w.toList with
    | '0' :: 'x' :: chs => number 16 chs
    | chs => number 16 chs
  n.bind (fun n => if n < 256 then some (BitVec.ofNat 8 n) else none)

/-- A decimal temperature. -/
def tempOf (w : String) : Option Byte :=
  (number 10 w.toList).bind (fun n => if n < 256 then some (BitVec.ofNat 8 n) else none)

/-! ### Names -/

def Mode.ofName : String → Option Mode
  | "Off" => some .off
  | "Auto" => some .auto
  | "Cool" => some .cool
  | "Heat" => some .heat
  | "Dry" => some .dry
  | "FanOnly" => some .fanOnly
  | _ => none

def Fan.ofName : String → Option Fan
  | "Auto" => some .auto
  | "Quiet" => some .quiet
  | "Low" => some .low
  | "MedLow" => some .medLow
  | "Med" => some .med
  | "MedHigh" => some .medHigh
  | "High" => some .high
  | "Turbo" => some .turbo
  | _ => none

def Disp.ofName : String → Option Disp
  | "Off" => some .off
  | "Auto" => some .auto
  | "SetTemp" => some .setTemp
  | "ActualTemp" => some .actualTemp
  | "OutsideTemp" => some .outsideTemp
  | _ => none

def TempUnit.ofName : String → Option TempUnit
  | "Celsius" => some .celsius
  | "Fahrenheit" => some .fahrenheit
  | _ => none

def boolOfName : String → Option Bool
  | "on" => some true
  | "off" => some false
  | _ => none

def SwingPos.name : SwingPos → String
  | .off => "Off"
  | .fullSwing => "FullSwing"
  | .named n => n

/-- The index of the element with this name (30_encoding.md R85). -/
def swingIndexOf (set : List SwingEntry) (w : String) : Option Byte :=
  let i := set.findIdx (fun e => SwingPos.name e.pos == w)
  if i < set.length then some (BitVec.ofNat 8 i) else none

/-! ### Lines -/

/-- The operations of MNEMONIC and its operand words. -/
def opsOfWords (c : Config) : List String → Option (List Instr)
  | ["FEED", b] => (byteOf b).map (fun b => [.feed b])
  | ["POLL"] => some [.poll]
  | ["RESTART"] => some [.restart]
  | ["TICK"] => some [.tick]
  | ["RESET"] => some [.reset]
  | ["SET_MODE", m] => (Mode.ofName m).map (fun m => [.setMode m])
  | ["SET_TEMP", v] => (tempOf v).map (fun v => [.setTemp v])
  | ["SET_FAN", f] => (Fan.ofName f).map (fun f => [.setFan f])
  | ["SET_VSWING", p] => (swingIndexOf c.vswing p).map (fun i => [.setVswing i])
  | ["SET_HSWING", p] => (swingIndexOf c.hswing p).map (fun i => [.setHswing i])
  | ["SET_DISPLAY", d] => (Disp.ofName d).map (fun d => [.setDisplay d])
  | ["SET_UNIT", u] => (TempUnit.ofName u).map (fun u => [.setUnit u])
  | ["SET_PLASMA", x] => (boolOfName x).map (fun x => [.setPlasma x])
  | ["SET_SLEEP", x] => (boolOfName x).map (fun x => [.setSleep x])
  | ["SET_XFAN", x] => (boolOfName x).map (fun x => [.setXfan x])
  | ["SET_SAVE", x] => (boolOfName x).map (fun x => [.setSave x])
  | "RX" :: bs => (bs.mapM byteOf).map rxOps
  | "HOSTTICK" :: bs => (bs.mapM byteOf).map (fun bs => hostTickOps bs [])
  | [] => some []
  | _ => none

/-- `@T` sets now_ms for this and every later line; the rest of the line are the operation's words. -/
def timeOfWords (t : Nat) : List String → Option (Nat × List String)
  | [] => some (t, [])
  | w :: ws =>
    match w.toList with
    | '@' :: chs => (number 10 chs).map (fun n => (n, ws))
    | _ => some (t, w :: ws)

/-- The commands of one line at time `t`, and the time after it. -/
def assembleLine (c : Config) (t : Nat) (line : String) : Option (Nat × List Command) :=
  (timeOfWords t (lineWords line)).bind (fun r =>
    (opsOfWords c r.2).map (fun ops => (r.1, issue (BitVec.ofNat 32 r.1) ops)))

/-- The commands of a program whose time before its first `@` is `t`. -/
def assemble (c : Config) : Nat → List String → Option (List Command)
  | _, [] => some []
  | t, line :: lines =>
    (assembleLine c t line).bind (fun r => (assemble c r.1 lines).map (fun cs => r.2 ++ cs))

end Sys2Proof.Machine
end

