-- ==== Sys2Proof/Tests/Slice0.lean ====
section
/-! SUPPORT. Tests: refused syntax and refused configurations, words written out from 30_encoding.md R84, single steps on
small states with the results of 95_test_vectors.md, and a witness of the hypotheses of every statement. -/

namespace Sys2Proof.Tests

open Sys2Proof Sys2Proof.Machine

/-! ### Helpers -/

def c0 : Config := Config.excfg

def fresh : State := State.reset

/-- The state an outcome answers. -/
def after (r : Result) : Option State :=
  match r with
  | .next t => some t
  | .fault _ => none
  | .refused _ => none

def bufFrom : Nat → List Byte → Memory
  | _, [] => []
  | i, b :: bs => Memory.cons i b (bufFrom (i + 1) bs)

/-- A state whose receiver holds `bytes`. -/
def rxAt (st : ReceiveState) (need : Nat) (bytes : List Byte) : State :=
  { fresh with rxState := st, rxCount := bytes.length, rxNeed := need, rxBuf := bufFrom 0 bytes }

/-- R1 of 95_test_vectors.md. -/
def r1 : List Byte := [0x7E, 0x7E, 0x08, 0x31, 0x19, 0x18, 0x01, 0x05, 0x02, 0x41, 0xB3]

def r1Body : List Byte := [0x19, 0x18, 0x01, 0x05, 0x02, 0x41]

/-- The DeviceState of S1 of 95_test_vectors.md. -/
def s1Dev : DeviceState :=
  { DeviceState.reset with
    power := true, mode := .cool, targetTemperature := 24, currentTemperature := some 25, fanMode := .low
    verticalSwing := .fullSwing, displayMode := .actualTemp, plasma := true }

/-- SQ of 95_test_vectors.md, at time `now`. -/
def sq (now : Time) : State :=
  { fresh with
    dev := s1Dev, lastMode := .cool, lastDisplayMode := .actualTemp, link := .ready, awaiting := true
    lastValidMs := 1000, lastTxMs := 1000, nowMs := now }

/-- DECODE starts from S1. -/
def s1 : Decoded := { dev := s1Dev, lastMode := .cool, lastDisplayMode := .actualTemp, warnings := [] }

/-- `s` with one command waiting at its own time. -/
def waiting (w : Word) (s : State) : State := { s with port := [⟨s.nowMs, w⟩] }

/-- Bytes 0 to 12 of a frame's body, and its checksum. -/
def shown (f : List Byte) : List Byte × Byte := ((f.drop 4).take 13, f.getD 49 0)

/-! ### Well-formedness: an ill-formed term for each check -/

theorem test_wf_vswing_last : Instr.wf c0 (.setVswing 6) = true := by decide
theorem test_wf_vswing_outside : Instr.wf c0 (.setVswing 7) = false := by decide
theorem test_wf_hswing_last : Instr.wf c0 (.setHswing 6) = true := by decide
theorem test_wf_hswing_outside : Instr.wf c0 (.setHswing 7) = false := by decide

theorem test_config_valid : configValid c0 = true := by decide
theorem test_config_mask_zero :
    configValid { c0 with fields := { c0.fields with power := ⟨0, 0x00, 3⟩ } } = false := by decide
theorem test_config_mask_gap :
    configValid { c0 with fields := { c0.fields with mode := ⟨0, 0x85, 0⟩ } } = false := by decide
theorem test_config_shift :
    configValid { c0 with fields := { c0.fields with mode := ⟨0, 0x07, 1⟩ } } = false := by decide
theorem test_config_width :
    configValid { c0 with fields := { c0.fields with tempSet := ⟨1, 0x07, 0⟩ } } = false := by decide
theorem test_config_index :
    configValid { c0 with fields := { c0.fields with power := ⟨45, 0x08, 3⟩ } } = false := by decide
theorem test_config_index_current :
    configValid { c0 with fields := { c0.fields with tempCur := ⟨253, 0xFF, 0⟩ } } = false := by decide
theorem test_config_apply_index : configValid { c0 with applyIdx := 45 } = false := by decide
theorem test_config_nc_index : configValid { c0 with ncIdx := 45 } = false := by decide
theorem test_config_nc_mask : configValid { c0 with ncMask := 0x03 } = false := by decide
theorem test_config_const_index : configValid { c0 with constBits := [(45, 0x01)] } = false := by decide
theorem test_config_mode_codes :
    configValid { c0 with modeCode := { c0.modeCode with heat := 0 } } = false := by decide
theorem test_config_mode_width :
    configValid { c0 with modeCode := { c0.modeCode with heat := 8 } } = false := by decide
theorem test_config_disp_codes :
    configValid { c0 with dispCode := { c0.dispCode with setTemp := 0 } } = false := by decide
theorem test_config_unit_codes : configValid { c0 with unitCode := ⟨1, 1⟩ } = false := by decide
theorem test_config_fan_injective :
    configValid { c0 with fanTable := { c0.fanTable with med := ⟨2, 1, false, false⟩ } } = false := by
  decide
theorem test_config_fan_width :
    configValid { c0 with fanTable := { c0.fanTable with med := ⟨8, 1, false, false⟩ } } = false := by
  decide
theorem test_config_fan_low :
    configValid { c0 with fanTable := { c0.fanTable with low := ⟨1, 0, false, false⟩ } } = false := by
  decide
theorem test_config_swing_off : configValid { c0 with vswing := c0.vswing.drop 1 } = false := by decide
theorem test_config_swing_full :
    configValid { c0 with hswing := [⟨.off, 0⟩, ⟨.named "Left", 2⟩] } = false := by decide
theorem test_config_swing_twice :
    configValid { c0 with hswing := [⟨.off, 0⟩, ⟨.fullSwing, 1⟩, ⟨.off, 2⟩] } = false := by decide
theorem test_config_swing_codes :
    configValid { c0 with hswing := [⟨.off, 0⟩, ⟨.fullSwing, 0⟩] } = false := by decide
theorem test_config_swing_width :
    configValid { c0 with hswing := [⟨.off, 0⟩, ⟨.fullSwing, 16⟩] } = false := by decide
theorem test_config_gap : configValid { c0 with tGap := some 0 } = false := by decide

/-! ### Words written out from 30_encoding.md R84: op in bits 15..8, arg in bits 7..0 -/

theorem test_decode_feed : decode c0 0b0000000101111110 = .ok (.feed 0x7E) := by decide
theorem test_decode_poll : decode c0 0b0000001000000000 = .ok .poll := by decide
theorem test_decode_restart : decode c0 0b0000001100000000 = .ok .restart := by decide
theorem test_decode_tick : decode c0 0b0000010000000000 = .ok .tick := by decide
theorem test_decode_reset : decode c0 0b0000010100000000 = .ok .reset := by decide
theorem test_decode_setMode : decode c0 0b0001000000000101 = .ok (.setMode .fanOnly) := by decide
theorem test_decode_setTemp : decode c0 0b0001000111111111 = .ok (.setTemp 0xFF) := by decide
theorem test_decode_setFan : decode c0 0b0001001000000111 = .ok (.setFan .turbo) := by decide
theorem test_decode_setVswing : decode c0 0b0001001100000110 = .ok (.setVswing 6) := by decide
theorem test_decode_setHswing : decode c0 0b0001010000000001 = .ok (.setHswing 1) := by decide
theorem test_decode_setDisplay : decode c0 0b0001010100000100 = .ok (.setDisplay .outsideTemp) := by decide
theorem test_decode_setUnit : decode c0 0b0001011000000001 = .ok (.setUnit .fahrenheit) := by decide
theorem test_decode_setPlasma : decode c0 0b0001011100000001 = .ok (.setPlasma true) := by decide
theorem test_decode_setSleep : decode c0 0b0001100000000000 = .ok (.setSleep false) := by decide
theorem test_decode_setXfan : decode c0 0b0001100100000001 = .ok (.setXfan true) := by decide
theorem test_decode_setSave : decode c0 0b0001101000000001 = .ok (.setSave true) := by decide

/-- V-ILL-1 to V-ILL-4. -/
theorem test_decode_illegalCommand :
    [0x0000, 0x0600, 0x1B00, 0xFFFF].map (decode c0) = List.replicate 4 (.error .illegalCommand) := by decide

/-- V-ILL-5 to V-ILL-11. -/
theorem test_decode_illegalOperand :
    [0x0201, 0x0301, 0x0401, 0x0501, 0x1006, 0x1208, 0x1307, 0x1407, 0x1505, 0x1602, 0x1702, 0x1802, 0x1902,
      0x1A02].map (decode c0) = List.replicate 14 (.error .illegalOperand) := by decide

/-- A table word decodes, and the next step from reset runs it: SET_MODE Heat finds the link Initializing (V-REQ-13). -/
theorem test_withFetchWord :
    decodeTableWord 16 0x1003 = some (.setMode .heat) ∧
      (after (step (fresh.withFetchWord 16 0x1003))).map (fun t => t.resp.status) = some .notReady := by
  decide

/-- One line of the assembler syntax of R100. -/
theorem test_assemble_line :
    (assemble c0 0 ["@5 RX 7E ; one byte"]).map (fun l => l.map (fun c => (c.nowMs, c.word))) =
      some [(5, 0x017E), (5, 0x0200)] := by decide

/-! ### Receiver -/

/-- V-RX-4: the third 7E is LEN, so rx_need is 129. -/
theorem test_feed_length :
    (after (exec (.feed 0x7E) (rxAt .receiving 0 [0x7E, 0x7E]))).map (fun t => (t.rxState, t.rxCount, t.rxNeed)) =
      some (.receiving, 3, 129) := by decide

/-- V-RX-2: the byte that breaks the pair is discarded. -/
theorem test_feed_breaks_pair :
    (after (exec (.feed 0x55) (rxAt .awaitingSync 0 [0x7E]))).map (fun t => (t.rxState, t.rxCount)) =
      some (.awaitingSync, 0) := by decide

/-- V-RX-9: R1 is accepted, changed is true, and the link is Ready. -/
theorem test_poll_report :
    (after (exec .poll (rxAt .complete 11 r1))).map (fun t => (t.resp, t.dev, t.link)) =
      some ({ status := .ok, event := .complete, changed := true }, s1Dev, .ready) := by decide

/-- V-RX-15: Restart is reported with FRAMING_STALL. -/
theorem test_poll_restart :
    (after (exec .poll (rxAt .restart 0 []))).map (fun t => (t.resp.event, t.resp.status, t.rxState)) =
      some (.restart, .framingStall, .awaitingSync) := by decide

/-- V-RX-10. -/
theorem test_restart :
    (after (exec .restart (rxAt .receiving 11 [0x7E, 0x7E, 0x08]))).map (fun t => (t.rxState, t.rxCount, t.rxNeed)) =
      some (.awaitingSync, 0, 0) := by decide

/-- V-RX-18, V-RX-19: LEN 0B asks for 11 bytes under TOTAL and 14 under AFTER_LEN. -/
theorem test_frameLen :
    (frameLen { c0 with lenConv := .total } 0x0B, frameLen c0 0x0B, frameLen { c0 with lenConv := .total } 0x02) =
      (11, 14, 3) := by decide

/-- V-VAL-1 to V-VAL-8, in order, R1 and its spoiled copy in their places. -/
theorem test_verify :
    [[0x7E, 0x7E, 0x00], [0x7E, 0x7E, 0x01, 0x32], [0x7E, 0x7E, 0x02, 0x32, 0x34], [0x7E, 0x7E, 0x02, 0x31, 0x33], r1,
      r1.set 10 0xB4, [0x7E, 0x7E, 0x08, 0x31, 0xFF, 0xFF, 0xFF, 0xFF, 0xFF, 0xFF, 0x33],
      [0x7E, 0x7E, 0x08, 0x31, 0x19, 0x18, 0x01, 0x05, 0x02, 0x0C, 0x7E]].map (verify c0) =
      [.tooShort, .tooShort, .unknownCommand, .bodyTooShort, .ok, .badChecksum, .ok, .ok] := by decide

/-- V-DEC-13: seven warnings in order, and the defaults. -/
theorem test_decode_warnings :
    (decodeFrom c0 (List.replicate 6 0xFF) s1).warnings =
      [⟨.unknownFieldValue, .mode⟩, ⟨.outOfRangeTemperature, .tempSet⟩, ⟨.outOfRangeTemperature, .tempCur⟩,
       ⟨.unknownFieldValue, .fanA⟩, ⟨.unknownFieldValue, .vswing⟩, ⟨.unknownFieldValue, .hswing⟩,
       ⟨.unknownFieldValue, .dispMode⟩] := by decide

/-- V-DEC-6a, V-DEC-6c: current temperatures 100 and -40. -/
theorem test_decode_current :
    [0x8C, 0x00].map (fun x => (decodeFrom c0 (r1Body.set 5 x) s1).dev.currentTemperature) =
      [some 100, some (-40)] := by decide

/-! ### Encoder and TICK -/

/-- V-ENC-1, V-SEQ-11: the Started frame with target 26. -/
theorem test_tick_started :
    (after (exec .tick { sq 1500 with pending := .started, dev := { s1Dev with targetTemperature := 26 } })).map
      (fun t => (t.pending, t.tx.map shown)) =
      some (.clearing,
        some ([0x19, 0x1A, 0x01, 0x05, 0x02, 0, 0, 0, 0, 0, 0xAF, 0, 0x80], 0x9A)) := by decide

/-- V-SEQ-8: across the wrap, 1001 ms drop the link. -/
theorem test_tick_drop :
    (after (exec .tick { sq 0x1E9 with lastValidMs := 0xFFFFFE00, lastTxMs := 0xFFFFFE00 })).map
      (fun t => (t.resp.linkDropped, t.resp.txSent, t.link)) = some (true, false, .initializing) := by decide

/-- V-ENC-4: power off, the retained mode's code. -/
theorem test_encode_off :
    shown (frameOf c0 (encodeBody c0 { s1Dev with power := false, mode := .off } .heat .actualTemp .none)) =
      ([0x14, 0x18, 0x01, 0x05, 0x02, 0, 0, 0, 0, 0, 0, 0x01, 0x80], 0xE5) := by decide

/-! ### RESET and the control requests, from SQ -/

/-- V-RST-1. -/
theorem test_reset : after (exec .reset (sq 0)) = some fresh := by decide

/-- V-REQ-1: the frame after SET_MODE Off. -/
theorem test_setMode_off :
    (after (exec (.setMode .off) (sq 1100))).map (fun t => (t.dev.power, t.lastMode, shown (txFrame t))) =
      some (false, .cool, [0x11, 0x18, 0x01, 0x05, 0x02, 0, 0, 0, 0, 0, 0xAF, 0, 0x80], 0x90) := by decide

/-- V-REQ-3a, V-REQ-3b. -/
theorem test_setTemp :
    [5, 40].map (fun v => (after (exec (.setTemp v) (sq 1100))).map (fun t => t.dev.targetTemperature)) =
      [some 16, some 30] := by decide

/-- V-REQ-4. -/
theorem test_setFan :
    (after (exec (.setFan .turbo) (sq 1100))).map (fun t => shown (txFrame t)) =
      some ([0x59, 0xB8, 0x01, 0x05, 0x02, 0, 0, 0, 0, 0, 0xAF, 0, 0x80], 0x78) := by decide

/-- V-REQ-5. -/
theorem test_setVswing :
    (after (exec (.setVswing 6) (sq 1100))).map (fun t => (t.dev.verticalSwing, (shown (txFrame t)).2)) =
      some (.named "Pos5", 0x9D) := by decide

/-- V-REQ-6. -/
theorem test_setHswing :
    (after (exec (.setHswing 6) (sq 1100))).map (fun t => (t.dev.horizontalSwing, (shown (txFrame t)).2)) =
      some (.named "Right", 0xF8) := by decide

/-- V-REQ-7a. -/
theorem test_setDisplay_off :
    (after (exec (.setDisplay .off) (sq 1100))).map (fun t => (t.dev.displayMode, t.lastDisplayMode)) =
      some (.off, .actualTemp) := by decide

/-- V-REQ-8. -/
theorem test_setUnit :
    (after (exec (.setUnit .fahrenheit) (sq 1100))).map (fun t => (t.dev.displayUnit, (shown (txFrame t)).2)) =
      some (.fahrenheit, 0x9A) := by decide

/-- V-REQ-9 to V-REQ-12: the checksum of the next frame after each toggle. -/
theorem test_toggles :
    [Instr.setPlasma true, .setSleep true, .setXfan true, .setSave true].map
      (fun i => (after (exec i (sq 1100))).map (fun t => (t.pending, (shown (txFrame t)).2))) =
      [some (.started, 0x98), some (.started, 0xA0), some (.started, 0xA8), some (.started, 0xB8)] := by
  decide

/-! ### Witnesses: for each statement with hypotheses, a case that meets all of them, clause by clause -/

/-- A receiver with `n` bytes of `need`, all after the sync bytes 0x00. -/
def partway (n need : Nat) : State :=
  { fresh with rxState := .receiving, rxCount := n, rxNeed := need, rxBuf := [(0, 0x7E), (1, 0x7E)] }

/-- A full buffer of `n` bytes, all after the sync bytes 0x00. -/
def full (n : Nat) : State := { partway n n with rxState := .complete }

/-- The body a clause of DECODE is tried on: R1's body with one byte changed. -/
def bodyWith (i : Nat) (v : Byte) : List Byte := r1Body.set i v

theorem witness_ResetRestoresEveryRegister : (0x01 : Byte) ≠ 0 ∧ (0xFF : Byte) ≠ 0 := by decide

theorem witness_PowerUpIsTheStateResetGives : (sq 0).cfg = c0 := by decide

theorem witness_FeedSeeksTwoSyncBytes :
    (fresh.rxState = .awaitingSync ∧ fresh.rxCount = 0) ∧
      ((rxAt .awaitingSync 0 [0x7E]).rxState = .awaitingSync ∧ (rxAt .awaitingSync 0 [0x7E]).rxCount = 1) := by
  decide

theorem witness_FeedTakesLengthByte :
    ((partway 2 0).rxState = .receiving ∧ (partway 2 0).rxCount = 2) ∧
      (3 : Nat) = (match (partway 2 0).cfg.lenConv with
        | .afterLen => (0x00 : Byte).toNat + 3 | .total => max (0x00 : Byte).toNat 3) ∧
      (258 : Nat) = (match (partway 2 0).cfg.lenConv with
        | .afterLen => (0xFF : Byte).toNat + 3 | .total => max (0xFF : Byte).toNat 3) := by decide

theorem witness_FeedAppendsFrameByte :
    [partway 3 4, partway 257 258].all (fun s =>
      decide (s.rxState = .receiving ∧ 3 ≤ s.rxCount ∧ s.rxCount < s.rxNeed ∧ s.rxNeed ≤ 258)) = true := by decide

theorem witness_FeedStoresAtMostOneByte :
    Memory.wf (partway 257 258).rxBuf = true ∧ (after (exec (.feed 0x7E) (partway 257 258))).isSome = true := by
  decide

theorem witness_PollReportsRestartOnce :
    (rxAt .restart 0 []).rxState = .restart ∧ fresh.rxState = .awaitingSync ∧
      (partway 2 0).rxState = .receiving ∧ ¬(partway 2 0).rxState = .restart ∧
      (after (exec .tick { partway 2 0 with nowMs := 101 })).map (fun t => t.rxState) = some .restart := by
  decide

theorem witness_PollDropsRejectedFrame :
    [(full 3, Status.tooShort), (full 258, Status.unknownCommand)].all (fun e =>
      decide (e.1.rxState = .complete ∧ e.1.rxNeed ≤ 258 ∧
        verify e.1.cfg ((List.range e.1.rxNeed).map (Memory.read e.1.rxBuf)) = e.2 ∧ e.2 ≠ .ok)) = true := by
  decide +kernel

theorem witness_PollTakesAcceptedReport :
    (rxAt .complete 11 r1).rxState = .complete ∧ (rxAt .complete 11 r1).rxNeed ≤ 258 ∧
      (List.range 11).map (Memory.read (rxAt .complete 11 r1).rxBuf) = r1 ∧ verify c0 r1 = .ok := by decide

theorem witness_PollMakesRoomForFeed :
    ((after (exec .poll (full 3))).bind (fun t => after (exec (.feed 0x7E) t))).isSome = true := by decide

theorem witness_RestartDiscardsTheFrame : (0x01 : Byte) ≠ 0 ∧ (0xFF : Byte) ≠ 0 := by decide

/-- One frame per clause, and what its summed range adds up to. -/
theorem witness_VerifyChecksLengthCommandChecksum :
    ([0x7E, 0x7E, 0x01, 0x32] : List Byte).length < 5 ∧
      ([0x7E, 0x7E, 0x02, 0x32, 0x34] : List Byte).getD 3 0 ≠ 0x31 ∧
      (r1.getD 3 0 = 0x31 ∧ 0xB3 % 256 ≠ ((r1.set 10 0xB4).getD (r1.length - 1) 0).toNat) ∧
      0xB3 % 256 = (r1.getD (r1.length - 1) 0).toNat ∧
      ((List.range (r1.length - 3)).map (fun k => (r1.getD (k + 2) 0).toNat)).sum = 0xB3 := by decide

theorem witness_VerifyChecksBodyLengthLast :
    verify c0 [0x7E, 0x7E, 0x02, 0x31, 0x33] = .bodyTooShort ∧ verify c0 r1 = .ok := by decide

theorem witness_EchoIsRejected :
    (rxAt .complete 50 (txFrame fresh)).rxState = .complete ∧ (rxAt .complete 50 (txFrame fresh)).rxNeed = 50 ∧
      (List.range 50).map (Memory.read (rxAt .complete 50 (txFrame fresh)).rxBuf) = txFrame fresh := by
  decide

theorem witness_FieldValueInRange :
    configValid c0 = true ∧ ∀ g, (fieldDesc c0 g).idx < r1Body.length :=
  ⟨test_config_valid, fun g => by cases g <;> decide⟩

/-- Mode code 1 is Cool's, mode code 5 is nobody's (V-DEC-4). -/
theorem witness_DecodeFusesPowerAndMode :
    configValid c0 = true ∧ s1.warnings = [] ∧ modeCode c0 .cool = field c0 r1Body .mode ∧
      ∀ m, modeCode c0 m ≠ field c0 (bodyWith 0 0x1D) .mode :=
  ⟨test_config_valid, rfl, by decide, fun m => by cases m <;> decide⟩

/-- TEMP_SET 14 and 15; TEMP_CUR 140 and 141. -/
theorem witness_DecodeChecksTemperatures :
    s1.warnings = [] ∧ field c0 (bodyWith 1 0x1E) .tempSet + 16 ≤ 30 ∧ 30 < field c0 (bodyWith 1 0x1F) .tempSet + 16 ∧
      c0.extSensor = false ∧ (field c0 (bodyWith 5 0x8C) .tempCur : Int) - c0.curTempBias ≤ 100 ∧
      100 < (field c0 (bodyWith 5 0x8D) .tempCur : Int) - c0.curTempBias ∧
      { c0 with extSensor := true }.extSensor = true := by decide

/-- R1's combination is Low; (2, 3, false, false) has no row (V-DEC-9). -/
theorem witness_DecodeMatchesFanTable :
    configValid c0 = true ∧ s1.warnings = [] ∧ fanRow c0 .low = fanKey c0 r1Body ∧
      fanKey c0 r1Body = ⟨1, 1, false, false⟩ ∧ fanKey c0 (bodyWith 1 0x58) = ⟨1, 1, true, false⟩ ∧
      fanKey c0 ((bodyWith 1 0xB8).set 0 0x59) = ⟨5, 3, false, true⟩ ∧
      ∀ f, fanRow c0 f ≠ fanKey c0 ((bodyWith 1 0x38).set 0 0x29) :=
  ⟨test_config_valid, rfl, by decide, by decide, by decide, by decide, fun f => by cases f <;> decide⟩

/-- Codes 6 and 4 are positions, 7 and 15 are none (V-DEC-10). -/
theorem witness_DecodeLooksSwingUp :
    configValid c0 = true ∧ s1.warnings = [] ∧
      (∃ e ∈ c0.vswing, e.code = field c0 (bodyWith 2 0x46) .vswing) ∧
      (∃ e ∈ c0.hswing, e.code = field c0 (bodyWith 2 0x46) .hswing) ∧
      (∀ e ∈ c0.vswing, e.code ≠ field c0 (bodyWith 2 0xF7) .vswing) ∧
      (∀ e ∈ c0.hswing, e.code ≠ field c0 (bodyWith 2 0xF7) .hswing) :=
  ⟨test_config_valid, rfl, by decide, by decide, by decide, by decide⟩

/-- Display code 9 is nobody's (V-DEC-12); a unit field of two bits has an unknown code. -/
theorem witness_DecodeDisplayUnitAndToggles :
    configValid c0 = true ∧ s1.warnings = [] ∧ dispCode c0 .actualTemp = field c0 r1Body .dispMode ∧
      (∀ m, dispCode c0 m ≠ field c0 (bodyWith 4 0x09) .dispMode) ∧
      unitCode c0 .fahrenheit = field c0 (bodyWith 3 0x3F) .dispUnit ∧
      configValid { c0 with fields := { c0.fields with dispUnit := ⟨6, 0x03, 0⟩ } } = true ∧
      (∀ u, unitCode c0 u ≠
        field { c0 with fields := { c0.fields with dispUnit := ⟨6, 0x03, 0⟩ } } (r1Body ++ [2]) .dispUnit) :=
  ⟨test_config_valid, rfl, by decide, fun m => by cases m <;> decide, by decide, by decide,
    fun u => by cases u <;> decide⟩

theorem witness_DecodeOverwritesAllButRetainedFields :
    s1 ≠ { s1 with dev := { s1Dev with power := false, plasma := false } } ∧
      s1Dev.targetTemperature = { s1Dev with power := false, plasma := false }.targetTemperature ∧
      s1Dev.currentTemperature = { s1Dev with power := false, plasma := false }.currentTemperature := by
  decide

theorem witness_layout : fieldsDisjoint c0 ∧ markersOutsideFields c0 ∧ reportMinBody c0 ≤ 45 := by
  unfold fieldsDisjoint markersOutsideFields
  decide

theorem witness_PoweredOffReportKeepsTheModeCode :
    configValid c0 = true ∧ fieldsDisjoint c0 ∧ markersOutsideFields c0 ∧ field c0 (bodyWith 0 0x11) .power = 0 ∧
      modeCode c0 .cool = field c0 (bodyWith 0 0x11) .mode ∧ DeviceState.reset.mode = .off :=
  ⟨test_config_valid, witness_layout.1, witness_layout.2.1, by decide, by decide, rfl⟩

theorem witness_OutboundFrameLayout : (List.replicate 45 (0 : Byte)).length = 45 := by decide

/-- Bits no field, constant or marker has: body[44] whole, and in a Started body the clear bits 0x50 of 0xAF. -/
theorem witness_MarkersFollowPending :
    configValid c0 = true ∧ markersOutsideFields c0 ∧ c0.ncIdx ≠ c0.applyIdx ∧
      (12, 0x80) ∈ c0.constBits ∧ 12 ≠ c0.applyIdx ∧
      (∀ e ∈ c0.constBits, e.1 = c0.ncIdx → e.2 &&& c0.ncMask = 0) ∧ (∀ e ∈ c0.constBits, e.1 ≠ c0.applyIdx) ∧
      (∀ f ∈ encodedFields, (fieldDesc c0 f).idx ≠ 44 ∧ (fieldDesc c0 f).idx ≠ c0.applyIdx) ∧
      44 ≠ c0.ncIdx ∧ 44 ≠ c0.applyIdx ∧ (∀ e ∈ c0.constBits, e.1 ≠ 44) ∧ (0xAF : Byte) &&& 0x50 = 0 :=
  ⟨test_config_valid, witness_layout.2.1, by decide, by decide, by decide, by decide, by decide, by decide, by decide,
    by decide, by decide, by decide⟩

theorem witness_EncodeClampsTargetTemperature :
    configValid c0 = true ∧ fieldsDisjoint c0 ∧ markersOutsideFields c0 :=
  ⟨test_config_valid, witness_layout.1, witness_layout.2.1⟩

theorem witness_DecodeOfEncodeRestoresDeviceState :
    configValid c0 = true ∧ fieldsDisjoint c0 ∧ markersOutsideFields c0 ∧ reportMinBody c0 ≤ 45 ∧
      (s1Dev.mode ≠ .off ↔ s1Dev.power = true) ∧ s1Dev.verticalSwing ∈ c0.vswing.map (fun e => e.pos) ∧
      s1Dev.horizontalSwing ∈ c0.hswing.map (fun e => e.pos) :=
  ⟨test_config_valid, witness_layout.1, witness_layout.2.1, witness_layout.2.2, by decide, by decide,
    by decide⟩

/-- The premises of R225 as written, met by power on with mode Off. -/
theorem witness_RoundTripAsWrittenInR225 :
    configValid c0 = true ∧ fieldsDisjoint c0 ∧ markersOutsideFields c0 ∧ reportMinBody c0 ≤ 45 ∧
      ({ s1Dev with mode := .off }.mode ≠ .off → { s1Dev with mode := .off }.power = true) ∧
      s1Dev.verticalSwing ∈ c0.vswing.map (fun e => e.pos) ∧
      s1Dev.horizontalSwing ∈ c0.hswing.map (fun e => e.pos) :=
  ⟨test_config_valid, witness_layout.1, witness_layout.2.1, witness_layout.2.2, by decide, by decide,
    by decide⟩

/-- A stall at 101 ms, none at 100 ms (V-RX-12, V-RX-13). -/
theorem witness_TickAbandonsStalledFrame :
    stalled { rxAt .awaitingSync 0 [0x7E] with nowMs := 101 } = true ∧
      stalled { rxAt .awaitingSync 0 [0x7E] with nowMs := 100 } = false ∧
      stalled { partway 2 0 with nowMs := 101 } = true ∧ stalled { full 3 with nowMs := 101 } = false := by
  decide

/-- 1001 ms drop the link, 1000 ms do not (V-SEQ-4, V-SEQ-5). -/
theorem witness_TickDropsSilentLink :
    ((sq 2001).link = .ready ∧ 1000 < ((sq 2001).nowMs - (sq 2001).lastValidMs).toNat) ∧
      ¬((sq 2000).link = .ready ∧ 1000 < ((sq 2000).nowMs - (sq 2000).lastValidMs).toNat) := by decide

/-- V-SEQ-3 and V-SEQ-10. -/
theorem witness_TickTransmitsWhenAllowed :
    ((sq 1500).link = .ready ∧ ((sq 1500).nowMs - (sq 1500).lastValidMs).toNat ≤ 1000 ∧
      (sq 1500).cfg.tTxMin ≤ ((sq 1500).nowMs - (sq 1500).lastTxMs).toNat) ∧
      { sq 1001 with awaiting := false }.awaiting = false := by decide

/-- V-SEQ-1 and V-SEQ-2. -/
theorem witness_TickHoldsBackOtherwise :
    fresh.link = .initializing ∧ (sq 1499).link = .ready ∧
      ((sq 1499).nowMs - (sq 1499).lastValidMs).toNat ≤ 1000 ∧ (sq 1499).awaiting = true ∧
      ((sq 1499).nowMs - (sq 1499).lastTxMs).toNat < (sq 1499).cfg.tTxMin := by decide

theorem witness_PendingUpdateSequence :
    [PendingUpdate.started, .clearing, .none].map
      (fun p => (after (exec .tick { sq 1500 with pending := p })).map (fun t => (t.tx.isSome, t.pending))) =
      [some (true, .clearing), some (true, .none), some (true, .none)] := by decide

theorem witness_OnlyAReadyTickTransmits :
    (after (step (waiting 0x0400 (sq 1500)))).map (fun t => t.tx.isSome) = some true := by decide

theorem witness_StrobeEqualsTxSent :
    (after (step (waiting 0x0400 (sq 1500)))).map (fun t => t.tx.map List.length) = some (some 50) := by
  decide

/-- An accepted report, a TICK that drops the link, RESET. -/
theorem witness_LinkTransitions :
    (after (step (waiting 0x0200 (rxAt .complete 11 r1)))).map (fun t => (t.resp.event, t.resp.status, t.link)) =
      some (.complete, .ok, .ready) ∧
      (after (step (waiting 0x0400 (sq 2001)))).map (fun t => t.link) = some .initializing ∧
      (after (step (waiting 0x0500 (sq 1500)))).map (fun t => t.link) = some .initializing := by decide

theorem witness_RequestsNeedReadyLink :
    Instr.wf c0 (.setVswing 6) = true ∧ Instr.setVswing 6 ≠ .poll ∧ fresh.link = .initializing ∧
      (sq 0).link = .ready := by decide

theorem witness_SetModeRequest : (sq 0).link = .ready ∧ fresh.link = .initializing ∧ 5 < (0x06 : Byte).toNat := by
  decide

theorem witness_SetTempRequest : (sq 0).link = .ready ∧ fresh.link = .initializing := by decide

theorem witness_SetFanRequest : (sq 0).link = .ready ∧ fresh.link = .initializing ∧ 7 < (0x08 : Byte).toNat := by
  decide

theorem witness_SetSwingRequests :
    (sq 0).cfg.vswing[(0x06 : Byte).toNat]? = some ⟨.named "Pos5", 6⟩ ∧
      (sq 0).cfg.hswing[(0x06 : Byte).toNat]? = some ⟨.named "Right", 6⟩ ∧ (sq 0).link = .ready ∧
      fresh.link = .initializing ∧ (0x06 : Byte).toNat < fresh.cfg.vswing.length ∧
      (0x06 : Byte).toNat < fresh.cfg.hswing.length := by decide

theorem witness_SetDisplayRequest : (sq 0).link = .ready ∧ fresh.link = .initializing ∧ 4 < (0x05 : Byte).toNat := by
  decide

theorem witness_SetUnitRequest : (sq 0).link = .ready ∧ fresh.link = .initializing ∧ 1 < (0x02 : Byte).toNat := by
  decide

theorem witness_ToggleRequests : (sq 0).link = .ready ∧ fresh.link = .initializing ∧ 1 < (0x02 : Byte).toNat := by
  decide

/-- Within the time duties: no operation yet, and one at 2^31 - 1 ms after a TICK. -/
theorem witness_StepRunsDecodedOperation :
    configValid (waiting 0x0400 (sq 1500)).cfg = true ∧
      (waiting 0x0400 (sq 1500)).port = [⟨1500, 0x0400⟩] ∧ (waiting 0x0400 (sq 1500)).tickAgeMs = none ∧
      0 + ((0x7FFFFFFF : Time) - 0).toNat < 2 ^ 31 ∧ decode c0 0x0400 = .ok .tick := by decide

theorem witness_TurnedAwayOperationsChangeNothing :
    decode (waiting 0x0600 fresh).cfg 0x0600 = .error .illegalCommand ∧ (waiting 0x0600 fresh).tickAgeMs = none ∧
      configValid (waiting 0x0600 fresh).cfg = true ∧ (full 3).rxState = .complete ∧
      (rxAt .restart 0 []).rxState = .restart ∧
      (after (exec (.setFan .low) fresh)).map (fun t => t.resp.status) = some .notReady := by decide

theorem witness_StopsOutsideTheHostTable :
    configValid { c0 with tGap := some 0 } = false ∧
      (2 ^ 31 ≤ 0 + ((0x80000000 : Time) - 0).toNat ∧ configValid c0 = true) ∧ fresh.port = [] := by decide

theorem witness_DecodeOfEncodeIsIdentity : Instr.wf c0 (.setVswing 6) = true ∧ Instr.wf c0 (.feed 0xFF) = true := by
  decide

theorem witness_EncodeOfDecodeIsIdentity : decode c0 0x1406 = .ok (.setHswing 6) := by decide

theorem witness_StepsTakeOneOperationInOrder : (after (step (waiting 0x0200 fresh))).isSome = true := by
  decide

theorem witness_OnlyReceiverOperationsWriteTheReceiver :
    (after (step (waiting 0x1003 (sq 1500)))).isSome = true ∧
      ¬(1 ≤ (0x1003 : Word).toNat / 256 ∧ (0x1003 : Word).toNat / 256 ≤ 5) := by decide

theorem witness_OnlyReportsRequestsAndResetWriteDeviceState :
    (after (step (waiting 0x1003 (sq 1500)))).map (fun t => decide (t.dev ≠ s1Dev)) = some true := by decide

/-- State.reset meets the invariants, and its receive buffer is in canonical form. -/
theorem witness_reset_invariants : Invariants fresh where
  cfgValid := test_config_valid
  bufWf := by decide
  awaitingSync := by decide
  receivingSync := by decide
  receivingCount := by decide
  completeCount := by decide
  restartCount := by decide
  needCap := by decide
  targetRange := by decide
  currentRange := fun _ h => nomatch h
  currentExternal := fun _ => rfl
  verticalInSet := by decide
  horizontalInSet := by decide
  modePower := by decide
  linkPending := by decide
  awaitingReady := by decide

theorem witness_InvariantHoldsAtPowerUp : configValid c0 = true := test_config_valid

theorem witness_EveryStepKeepsTheInvariant :
    Invariants { fresh with port := [⟨0, 0x017E⟩] } ∧ (after (step (waiting 0x017E fresh))).isSome = true := by
  refine ⟨?_, by decide⟩
  obtain ⟨h1, h2, h3, h4, h5, h6, h7, h8, h9, h10, h11, h12, h13, h14, h15, h16⟩ := witness_reset_invariants
  exact ⟨h1, h2, h3, h4, h5, h6, h7, h8, h9, h10, h11, h12, h13, h14, h15, h16⟩

theorem witness_NoCommandIsFatal :
    Invariants { fresh with port := [⟨0, 0x017E⟩] } ∧
      { fresh with port := [⟨0, 0x017E⟩] }.port = ⟨0, 0x017E⟩ :: [] ∧
      { fresh with port := [⟨0, 0x017E⟩] }.tickAgeMs = none :=
  ⟨witness_EveryStepKeepsTheInvariant.1, rfl, rfl⟩

/-- A FEED and, 2^31 - 1 ms later, a TICK. -/
theorem witness_EveryDutifulRunCompletes :
    Invariants { fresh with port := [⟨0, 0x017E⟩, ⟨0x7FFFFFFF, 0x0400⟩] } ∧
      timeDutiesKept none 0 [⟨0, 0x017E⟩, ⟨0x7FFFFFFF, 0x0400⟩] = true := by
  refine ⟨?_, by decide⟩
  obtain ⟨h1, h2, h3, h4, h5, h6, h7, h8, h9, h10, h11, h12, h13, h14, h15, h16⟩ := witness_reset_invariants
  exact ⟨h1, h2, h3, h4, h5, h6, h7, h8, h9, h10, h11, h12, h13, h14, h15, h16⟩

end Sys2Proof.Tests
end

section
/-! PROOFS. The port and the configuration over a step (20_memory.md R69, R70, R74). -/

namespace Sys2Proof.Machine

/-- Settles O54: the fetch takes the oldest command and samples its time, and neither an operation (`exec_frame`) nor
a refused word writes the port, the time or the configuration after that. -/
theorem stepsTakeOneOperationInOrder : Obligations.StepsTakeOneOperationInOrder := by
  intro s t h
  obtain ⟨cmd, rest, age, hport, -, ⟨i, -, hexec⟩ | ⟨e, -, rfl⟩⟩ := step_cases h
  · obtain ⟨hcfg, hrest, hnow, -⟩ := exec_frame hexec
    exact ⟨cmd, rest, hport, hrest, hnow, hcfg⟩
  · exact ⟨cmd, rest, hport, rfl, rfl, rfl⟩

end Sys2Proof.Machine
end

section
/-! PROOFS. The value a field extraction gives (30_encoding.md R91, R92). -/

namespace Sys2Proof.Machine

/-- Field extraction in natural numbers: mask, then shift (30_encoding.md R92). -/
theorem field_eq_toNat (c : Config) (body : List Byte) (f : BodyField) :
    field c body f =
      ((body.getD (fieldDesc c f).idx 0).toNat &&& (fieldDesc c f).mask.toNat) >>> (fieldDesc c f).shift := by
  rw [field, BitVec.toNat_ushiftRight, BitVec.toNat_and]

/-- A mask whose bits are contiguous from the shift upward ends `popcount` bits above it (30_encoding.md R91). -/
theorem mask_lt_of_descShapeOk {d : FieldDesc} (h : descShapeOk d = true) :
    d.mask.toNat < 2 ^ popcount d.mask * 2 ^ d.shift := by
  have hmask : d.mask.toNat = (2 ^ popcount d.mask - 1) * 2 ^ d.shift := by
    simp only [descShapeOk, Bool.and_eq_true, decide_eq_true_eq] at h
    exact h.2
  rw [hmask]
  exact Nat.mul_lt_mul_of_pos_right (Nat.sub_one_lt (Nat.two_pow_pos _).ne') (Nat.two_pow_pos _)

/-- The masked byte is at most the mask, so once shifted it fits the field's width. -/
theorem field_lt_of_descShapeOk {c : Config} {f : BodyField} (h : descShapeOk (fieldDesc c f) = true)
    (body : List Byte) : field c body f < 2 ^ fieldWidth c f := by
  rw [field_eq_toNat, Nat.shiftRight_eq_div_pow, Nat.div_lt_iff_lt_mul (Nat.two_pow_pos _)]
  exact Nat.and_le_right.trans_lt (mask_lt_of_descShapeOk h)

/-- Settles O15: the extraction read in natural numbers, and the bound from the mask's shape, which a valid
configuration gives every field. -/
theorem fieldValueInRange : Obligations.FieldValueInRange := by
  intro c body g hv _
  obtain ⟨hshape, -, -⟩ := fieldTable_spec (configValid_iff.mp hv).1 g
  exact ⟨field_eq_toNat c body g, field_lt_of_descShapeOk hshape body⟩

end Sys2Proof.Machine
end

section
/-! PROOFS. The receiver over a step: which operations write it (40_receiver.md R120, 10_state.md R34), the sync search
of FEED (R122, R123), and the events of POLL outside Complete (R128). -/

namespace Sys2Proof.Machine

/-! ### The control requests leave the receiver as it was -/

/-- A row whose operation is a control request for every operand decodes to a control request. -/
theorem isRequest_of_withOperand {α : Type} {operand : Option α} {mk : α → Instr} {i : Instr}
    (hmk : ∀ x, isRequest (mk x) = true) (h : withOperand operand mk = .ok i) : isRequest i = true := by
  cases operand with
  | none => cases h
  | some x =>
    cases h
    exact hmk x

/-- The rows outside 0x01 .. 0x05 of the opcode table are the control requests (30_encoding.md R84): SET_TEMP, whose
operand is any byte, and the ten whose operand is read in its class. -/
theorem isRequest_of_decode {c : Config} {w : Word} {i : Instr} (h : decode c w = .ok i)
    (hop : ¬(1 ≤ w.toNat / 256 ∧ w.toNat / 256 ≤ 5)) : isRequest i = true := by
  rw [← opOf_toNat] at hop
  unfold decode at h
  dsimp only at h
  split at h
  case h_1 hw | h_2 hw | h_3 hw | h_4 hw | h_5 hw => omega
  case h_7 => cases h; rfl
  case h_17 => cases h
  all_goals exact isRequest_of_withOperand (fun _ => rfl) h

/-- A control request, accepted or turned away, writes no receiver register (40_receiver.md R120). -/
theorem execRequest_receiver {i : Instr} {s t : State} (hi : isRequest i = true) (h : exec i s = .next t) :
    t.rxState = s.rxState ∧ t.rxBuf = s.rxBuf ∧ t.rxCount = s.rxCount ∧ t.rxNeed = s.rxNeed ∧
      t.lastByteMs = s.lastByteMs := by
  obtain ⟨st, -, hexec⟩ | ⟨-, dev, lm, ld, hexec, -⟩ := execRequest_answers (s := s) hi
  · cases h.symm.trans hexec
    exact ⟨rfl, rfl, rfl, rfl, rfl⟩
  · cases h.symm.trans hexec
    exact ⟨rfl, rfl, rfl, rfl, rfl⟩

/-- Settles O55: outside 0x01 .. 0x05 a word is a control request or is refused, and neither writes the receiver. -/
theorem onlyReceiverOperationsWriteTheReceiver : Obligations.OnlyReceiverOperationsWriteTheReceiver := by
  intro s t cmd rest hstep hport hop
  obtain ⟨cmd', rest', age, hport', -, hrun⟩ := step_cases hstep
  cases hport.symm.trans hport'
  obtain ⟨i, hdec, hexec⟩ | ⟨e, -, rfl⟩ := hrun
  · have hframe := execRequest_receiver (isRequest_of_decode hdec hop) hexec
    exact hframe
  · exact ⟨rfl, rfl, rfl, rfl, rfl⟩

/-! ### FEED in AwaitingSync -/

theorem exec_feed_awaitingSync {b : Byte} {s : State} (hs : s.rxState = .awaitingSync) :
    exec (.feed b) s = feedAwaiting b s := by
  show execFeed b s = feedAwaiting b s
  rw [execFeed, hs]

/-- A byte accepted with no change of the receive state and of rx_need writes the buffer, the count and last_byte_ms
alone. -/
theorem accepted_keeping_rxState {st : ReceiveState} (buf : Memory) (count : Nat) {s : State} (hs : s.rxState = st) :
    accepted st buf count s.rxNeed s =
      .next
        { s with
          rxBuf := buf, rxCount := count, lastByteMs := s.nowMs, resp := { status := .ok }, tx := none } := by
  rw [accepted_eq, ← hs]

/-- Settles O3: FEED with no byte yet and with one sync byte, each split on whether the byte is 0x7E. -/
theorem feedSeeksTwoSyncBytes : Obligations.FeedSeeksTwoSyncBytes := by
  refine ⟨fun b s hs hcount => ?_, fun b s hs hcount => ?_⟩
  · rw [exec_feed_awaitingSync hs, feedAwaiting, if_pos hcount, sync]
    by_cases hb : b = 0x7E
    · simp only [hb, reduceIte, accepted_keeping_rxState _ _ hs]
    · simp only [hb, reduceIte, accepted_keeping_rxState _ _ hs, hcount]
  · have hcount' : s.rxCount ≠ 0 := by omega
    rw [exec_feed_awaitingSync hs, feedAwaiting, if_neg hcount', sync]
    by_cases hb : b = 0x7E
    · simp only [hb, reduceIte, accepted_eq]
    · simp only [hb, reduceIte, accepted_keeping_rxState _ _ hs]

/-! ### POLL outside Complete, and the stall check that enters Restart -/

theorem exec_poll_restart {s : State} (hs : s.rxState = .restart) :
    exec .poll s = .next
      { s with rxState := .awaitingSync, resp := { status := .framingStall, event := .restart }, tx := none } := by
  show execPoll s = _
  rw [execPoll, hs]
  rfl

theorem exec_poll_noEvent {s : State} (hs : s.rxState = .awaitingSync ∨ s.rxState = .receiving) :
    exec .poll s = .next (respond { status := .ok } s) := by
  show execPoll s = _
  rcases hs with hs | hs <;> rw [execPoll, hs]

/-- The stall check is the one part of TICK that writes the receiver (44_sequencer.md R240). -/
theorem exec_tick_receiver {s t : State} (h : exec .tick s = .next t) :
    t.rxState = (stallCheck s).rxState ∧ t.rxCount = (stallCheck s).rxCount ∧
      t.rxNeed = (stallCheck s).rxNeed := by
  have h : execTick s = .next t := h
  obtain ⟨-, htick⟩ | ⟨-, -, -, htick⟩ | ⟨-, -, htick⟩ := execTick_cases s
  all_goals
    cases h.symm.trans htick
    exact ⟨rfl, rfl, rfl⟩

/-- The stall check enters Restart only by emptying the receiver (40_receiver.md R130). -/
theorem stallCheck_enters_restart {s : State} (hs : s.rxState ≠ .restart)
    (ht : (stallCheck s).rxState = .restart) : (stallCheck s).rxCount = 0 ∧ (stallCheck s).rxNeed = 0 := by
  cases hst : stalled s with
  | false =>
    rw [stallCheck, hst] at ht
    exact absurd ht hs
  | true =>
    rw [stallCheck, hst]
    exact ⟨rfl, rfl⟩

/-- Settles O7: the POLL that reports Restart leaves AwaitingSync, where a POLL has no event; Restart itself is entered
with an empty receiver. -/
theorem pollReportsRestartOnce : Obligations.PollReportsRestartOnce := by
  refine ⟨fun s hs => ?_, fun s t htick hs ht => ?_, fun s hs => exec_poll_noEvent hs⟩
  · exact ⟨_, exec_poll_restart hs, rfl, _, exec_poll_noEvent (.inl rfl), rfl⟩
  · obtain ⟨hstate, hcount, hneed⟩ := exec_tick_receiver htick
    rw [hstate] at ht
    rw [hcount, hneed]
    exact stallCheck_enters_restart hs ht

end Sys2Proof.Machine
end

section
/-! PROOFS. The validator's checks in their order (41_validator.md R152 to R154). -/

namespace Sys2Proof.Machine

/-! ### The checksum over a frame -/

theorem chk_toNat (bs : List Byte) : (chk bs).toNat = (bs.map BitVec.toNat).sum % 256 := by
  rw [chk, BitVec.toNat_ofNat]

/-- The summed range read by frame index: n - 3 bytes, from index 2 on (41_validator.md R154). -/
theorem summedRange_eq_map_getD (f : List Byte) :
    summedRange f = (List.range (f.length - 3)).map (fun k => f.getD (k + 2) 0) := by
  have hlen : (summedRange f).length = f.length - 3 := by
    rw [summedRange, List.length_drop, List.length_take]
    omega
  refine List.ext_getElem (by rw [hlen, List.length_map, List.length_range]) fun k hk _ => ?_
  have hf : k + 2 < f.length := by omega
  rw [List.getElem_map, List.getElem_range, ← List.getElem_eq_getD (h := hf)]
  simp only [summedRange, List.getElem_drop, List.getElem_take, Nat.add_comm 2 k]

/-- The checksum test compares the sum modulo 256 with the last byte, as numbers. -/
theorem chk_summedRange_eq_iff (f : List Byte) (b : Byte) :
    chk (summedRange f) = b ↔
      ((List.range (f.length - 3)).map (fun k => (f.getD (k + 2) 0).toNat)).sum % 256 = b.toNat := by
  rw [← BitVec.toNat_inj, chk_toNat, summedRange_eq_map_getD, List.map_map]
  rfl

/-! ### VERIFY, one rule per check -/

theorem mem_allow_iff {b : Byte} : b ∈ allow ↔ b = 0x31 := List.mem_singleton

section
variable {c : Config} {f : List Byte}

theorem verify_of_short (h : f.length < 5) : verify c f = .tooShort := if_pos h

theorem verify_of_otherCommand (hlen : 5 ≤ f.length) (hcmd : f.getD 3 0 ≠ 0x31) :
    verify c f = .unknownCommand := by
  rw [verify, minFrame, if_neg (Nat.not_lt.mpr hlen), if_pos (mt mem_allow_iff.mp hcmd)]

/-- From the checksum test on, for a frame of a report's length and command. -/
theorem verify_of_report (hlen : 5 ≤ f.length) (hcmd : f.getD 3 0 = 0x31) :
    verify c f =
      if chk (summedRange f) ≠ f.getD (f.length - 1) 0 then .badChecksum
      else if f.length - 5 < reportMinBody c then .bodyTooShort else .ok := by
  rw [verify, minFrame, if_neg (Nat.not_lt.mpr hlen), if_neg (not_not_intro (mem_allow_iff.mpr hcmd))]

theorem verify_of_badChecksum (hlen : 5 ≤ f.length) (hcmd : f.getD 3 0 = 0x31)
    (hchk : chk (summedRange f) ≠ f.getD (f.length - 1) 0) : verify c f = .badChecksum := by
  rw [verify_of_report hlen hcmd, if_pos hchk]

/-- Past the three checks only the body's length is left to test (41_validator.md R155). -/
theorem verify_of_goodChecksum (hlen : 5 ≤ f.length) (hcmd : f.getD 3 0 = 0x31)
    (hchk : chk (summedRange f) = f.getD (f.length - 1) 0) :
    verify c f = if f.length - 5 < reportMinBody c then .bodyTooShort else .ok := by
  rw [verify_of_report hlen hcmd, if_neg (not_not_intro hchk)]

end

/-- Settles O12: one rule of VERIFY per clause, with the checksum test read as a sum over frame indices. -/
theorem verifyChecksLengthCommandChecksum : Obligations.VerifyChecksLengthCommandChecksum := by
  rintro c f sum rfl
  refine ⟨verify_of_short, verify_of_otherCommand, fun hlen hcmd hsum => ?_, fun hlen hcmd hsum => ?_⟩
  · exact verify_of_badChecksum hlen hcmd (mt (chk_summedRange_eq_iff f _).mp hsum)
  · rw [verify_of_goodChecksum hlen hcmd ((chk_summedRange_eq_iff f _).mpr hsum)]
    exact ite_eq_or_eq _ _ _

end Sys2Proof.Machine
end

section
/-! PROOFS. DECODE of power and mode, the temperatures and the swing positions (42_decoder.md R172 to R177, R180,
R181). -/

namespace Sys2Proof.Machine

/-! ### Which warnings DECODE logs, from an empty log -/

section Warnings
variable {c : Config} {body : List Byte} {d : Decoded} (hd : d.warnings = [])
include hd

theorem mem_decodeFrom_warnings {w : Warning} :
    w ∈ (decodeFrom c body d).warnings ↔ w ∈ newWarnings c body := by
  rw [decodeFrom_warnings, hd, List.nil_append]

theorem modeWarning_mem_iff :
    ⟨.unknownFieldValue, .mode⟩ ∈ (decodeFrom c body d).warnings ↔ modeOfCode c (field c body .mode) = none := by
  rw [mem_decodeFrom_warnings hd]
  simp [newWarnings, mem_warnIf]

theorem tempSetWarning_mem_iff :
    ⟨.outOfRangeTemperature, .tempSet⟩ ∈ (decodeFrom c body d).warnings ↔ 30 < field c body .tempSet + 16 := by
  rw [mem_decodeFrom_warnings hd]
  simp [newWarnings, mem_warnIf]

theorem tempCurWarning_mem_iff :
    ⟨.outOfRangeTemperature, .tempCur⟩ ∈ (decodeFrom c body d).warnings ↔
      c.extSensor = false ∧ 100 < (field c body .tempCur : Int) - c.curTempBias := by
  rw [mem_decodeFrom_warnings hd]
  simp [newWarnings, mem_warnIf]

theorem vswingWarning_mem_iff :
    ⟨.unknownFieldValue, .vswing⟩ ∈ (decodeFrom c body d).warnings ↔
      swingOfCode c.vswing (field c body .vswing) = none := by
  rw [mem_decodeFrom_warnings hd]
  simp [newWarnings, mem_warnIf]

theorem hswingWarning_mem_iff :
    ⟨.unknownFieldValue, .hswing⟩ ∈ (decodeFrom c body d).warnings ↔
      swingOfCode c.hswing (field c body .hswing) = none := by
  rw [mem_decodeFrom_warnings hd]
  simp [newWarnings, mem_warnIf]

end Warnings

/-! ### Power and mode -/

theorem decodeFrom_mode_of_known {c : Config} {body : List Byte} {m : OnMode} (d : Decoded)
    (h : modeOfCode c (field c body .mode) = some m) :
    (decodeFrom c body d).dev.mode = if field c body .power ≠ 0 then OnMode.toMode m else .off := by
  simp only [decodeFrom_mode, h, flag, decide_eq_true_eq]

theorem decodeFrom_mode_of_unknown {c : Config} {body : List Byte} (d : Decoded)
    (h : modeOfCode c (field c body .mode) = none) : (decodeFrom c body d).dev.mode = .off := by
  simp only [decodeFrom_mode, h]

/-- Settles O16: the mode looked up by the field's code, which a valid configuration makes unambiguous, found or not. -/
theorem decodeFusesPowerAndMode : Obligations.DecodeFusesPowerAndMode := by
  rintro c body d _ hv hd rfl
  refine ⟨decodeFrom_power c body d, fun m hm => ?_, fun hnone => ?_⟩
  · have hcode : modeOfCode c (field c body .mode) = some m := hm ▸ modeOfCode_modeCode hv m
    refine ⟨?_, decodeFrom_mode_of_known d hcode, ?_⟩
    · rw [decodeFrom_lastMode, hcode, Option.getD_some]
    · rw [modeWarning_mem_iff hd, hcode]
      exact Option.some_ne_none m
  · have hcode : modeOfCode c (field c body .mode) = none := modeOfCode_none.mpr hnone
    refine ⟨?_, decodeFrom_mode_of_unknown d hcode, (modeWarning_mem_iff hd).mpr hcode⟩
    rw [decodeFrom_lastMode, hcode, Option.getD_none]

/-! ### The temperatures -/

/-- Settles O17: the threshold that keeps a temperature is the one that logs its warning; an external sensor keeps the
current one with no warning. -/
theorem decodeChecksTemperatures : Obligations.DecodeChecksTemperatures := by
  rintro c body d _ hd rfl
  simp only [tempSetWarning_mem_iff hd, tempCurWarning_mem_iff hd, decodeFrom_targetTemperature,
    decodeFrom_currentTemperature]
  refine ⟨fun hset => ?_, fun hset => ?_, fun hext hcur => ?_, fun hext hcur => ?_, fun hext => ?_⟩
  · exact ⟨if_neg (Nat.not_lt.mpr hset), Nat.not_lt.mpr hset⟩
  · exact ⟨if_pos hset, hset⟩
  · exact ⟨if_neg (by simp [hext, hcur]), fun h => absurd h.2 (Int.not_lt.mpr hcur)⟩
  · exact ⟨if_pos (.inr hcur), hext, hcur⟩
  · exact ⟨if_pos (.inl hext), fun h => by simp [hext] at h⟩

/-! ### The swing positions -/

/-- The code of an element of a swing position set is looked up to its position (30_encoding.md R94). -/
theorem swingOfCode_code {w : Nat} {set : List SwingEntry} {e : SwingEntry} (hv : swingSetOk w set = true)
    (he : e ∈ set) : swingOfCode set e.code = some e.pos := by
  obtain ⟨-, -, -, -, hcodes, -⟩ := swingSet_spec hv
  rw [swingOfCode, find_code_self (code := fun e : SwingEntry => e.code) he hcodes, Option.map_some]

/-- Both swing fields in one rule: a position read by lookup, with a warning exactly when the lookup fails. -/
theorem swing_spec_of_lookup {w v : Nat} {set : List SwingEntry} {p : SwingPos} {warned : Prop}
    (hv : swingSetOk w set = true) (hp : p = (swingOfCode set v).getD .off)
    (hw : warned ↔ swingOfCode set v = none) :
    (∀ e ∈ set, e.code = v → p = e.pos ∧ ¬warned) ∧ ((∀ e ∈ set, e.code ≠ v) → p = .off ∧ warned) := by
  rw [hp, hw]
  refine ⟨fun e he hcode => ?_, fun hnone => ?_⟩
  · rw [← hcode, swingOfCode_code hv he]
    exact ⟨rfl, Option.some_ne_none _⟩
  · rw [swingOfCode_none.mpr hnone]
    exact ⟨rfl, rfl⟩

/-- Settles O19: the lookup rule at VSWING and at HSWING. -/
theorem decodeLooksSwingUp : Obligations.DecodeLooksSwingUp := by
  rintro c body d _ hv hd rfl
  obtain ⟨-, -, -, -, hvset, hhset, -⟩ := configValid_iff.mp hv
  obtain ⟨hvknown, hvunknown⟩ :=
    swing_spec_of_lookup hvset (decodeFrom_verticalSwing c body d) (vswingWarning_mem_iff hd)
  obtain ⟨hhknown, hhunknown⟩ :=
    swing_spec_of_lookup hhset (decodeFrom_horizontalSwing c body d) (hswingWarning_mem_iff hd)
  exact ⟨hvknown, hvunknown, hhknown, hhunknown⟩

end Sys2Proof.Machine
end

section
/-! PROOFS. The outbound frame and the target temperature ENCODE packs (43_encoder.md R215, R221 to R223). -/

namespace Sys2Proof.Machine

/-! ### FRAME, byte by byte -/

/-- FRAME written as one list: the two sync bytes, LEN, the command, the body and the checksum. -/
theorem frameOf_eq (c : Config) (body : List Byte) :
    frameOf c body =
      sync :: sync :: lenTx c :: cmdSet :: (body ++ [chk (lenTx c :: cmdSet :: body)]) := rfl

/-- A receiver sums the same bytes FRAME does: LEN, the command and the body (41_validator.md R154, 43_encoder.md
R223). -/
theorem summedRange_frameOf (c : Config) (body : List Byte) :
    summedRange (frameOf c body) = lenTx c :: cmdSet :: body := by
  rw [summedRange, ← List.dropLast_eq_take]
  exact congrArg (List.drop 2) List.dropLast_concat

theorem getD_frameOf_body (c : Config) {body : List Byte} {i : Nat} (hi : i < body.length) :
    (frameOf c body).getD (i + 4) 0 = body.getD i 0 := by
  simp only [frameOf_eq, List.getD_cons_succ]
  exact List.getD_append body _ 0 i hi

/-- The last byte of a frame is the checksum of the bytes a receiver sums. -/
theorem getD_frameOf_last (c : Config) (body : List Byte) :
    (frameOf c body).getD (body.length + 4) 0 = chk (summedRange (frameOf c body)) := by
  rw [summedRange_frameOf]
  simp only [frameOf_eq, List.getD_cons_succ]
  rw [List.getD_append_right _ _ _ _ le_rfl, Nat.sub_self, List.getD_cons_zero]

/-- Settles O24: the head of the frame by computation, the body shifted by four, and the checksum read as VERIFY reads
it (`chk_summedRange_eq_iff`). -/
theorem outboundFrameLayout : Obligations.OutboundFrameLayout := by
  rintro c body _ hbody rfl
  have hlen : (frameOf c body).length = 50 := length_frameOf hbody
  refine ⟨hlen, rfl, rfl, rfl, rfl, fun i hi => getD_frameOf_body c (hbody ▸ hi), ?_⟩
  have hlast : chk (summedRange (frameOf c body)) = (frameOf c body).getD 49 0 := by
    rw [← getD_frameOf_last, hbody]
  have hsum := (chk_summedRange_eq_iff _ _).mp hlast
  rw [hlen] at hsum
  exact hsum.symm

/-! ### The target temperature -/

theorem clamp_clamp (x lo hi : Nat) : clamp (clamp x lo hi) lo hi = clamp x lo hi := by
  simp only [clamp]
  omega

/-- ENCODE reads the target temperature through the clamp alone (43_encoder.md R215). -/
theorem encodeBody_clamp_targetTemperature (c : Config) (d : DeviceState) (lm : OnMode) (ld : OnDisp)
    (p : PendingUpdate) :
    encodeBody c { d with targetTemperature := clamp d.targetTemperature tempMin tempMax } lm ld p =
      encodeBody c d lm ld p := by
  simp only [encodeBody, packedFields, clamp_clamp]

theorem tempSet_mem_packedFields (c : Config) (d : DeviceState) (lm : OnMode) (ld : OnDisp) :
    (BodyField.tempSet, clamp d.targetTemperature tempMin tempMax - tempOffset) ∈ packedFields c d lm ld :=
  .tail _ (.tail _ (.head _))

theorem packedTemp_le (t : Nat) : clamp t tempMin tempMax - tempOffset ≤ 14 :=
  Nat.sub_le_sub_right (Nat.min_le_right _ _) tempOffset

/-- TEMP_SET is a 4-bit field (30_encoding.md R91). -/
theorem fieldWidth_tempSet {c : Config} (hv : configValid c = true) : fieldWidth c .tempSet = 4 := by
  obtain ⟨-, hwidth, -⟩ := fieldTable_spec (configValid_iff.mp hv).1 .tempSet
  exact eq_of_beq hwidth

/-- Settles O27: the clamp is idempotent, its value minus 16 is at most 14, and that fits the four bits of TEMP_SET. -/
theorem encodeClampsTargetTemperature : Obligations.EncodeClampsTargetTemperature := by
  intro c d lm ld p
  have hle := packedTemp_le d.targetTemperature
  have hmem := tempSet_mem_packedFields c d lm ld
  refine ⟨(encodeBody_clamp_targetTemperature c d lm ld p).symm, hmem, hle, fun hv hd hm => ?_⟩
  refine field_encodeBody hv hd hm hmem ?_
  rw [fieldWidth_tempSet hv]
  exact Nat.lt_of_le_of_lt hle (by decide)

end Sys2Proof.Machine
end

section
/-! PROOFS. The transmission of TICK (44_sequencer.md R245 to R247) and the control requests SET_TEMP, SET_FAN, the
swings, SET_UNIT and the toggles (R261 to R264, R266 to R270). -/

namespace Sys2Proof.Machine

/-! ### TICK -/

theorem linkExpired_eq_false {s : State} (h : (s.nowMs - s.lastValidMs).toNat ≤ 1000) : linkExpired s = false :=
  Bool.eq_false_iff.mpr fun hexp => Nat.not_lt.mpr h (linkExpired_iff.mp hexp).2

/-- Settles O32: the link has not expired and the throttle passes, so TICK is in its transmitting case
(`execTick_transmits`); the stall check before it writes three receiver registers alone. -/
theorem tickTransmitsWhenAllowed : Obligations.TickTransmitsWhenAllowed := by
  intro s hready halive hthrottle
  refine ⟨_, execTick_transmits (linkExpired_eq_false halive) hready (throttleOk_iff.mpr hthrottle), ?_⟩
  rw [stallCheck_eq]
  rfl

/-! ### Each request as the shared rule of its body (44_sequencer.md R271) -/

theorem exec_setTemp (v : Byte) (s : State) :
    exec (.setTemp v) s =
      request (fun s => { s with dev := { s.dev with targetTemperature := clamp v.toNat tempMin tempMax } }) s := rfl

theorem exec_setFan (f : Fan) (s : State) :
    exec (.setFan f) s = request (fun s => { s with dev := { s.dev with fanMode := f } }) s := rfl

theorem exec_setUnit (u : TempUnit) (s : State) :
    exec (.setUnit u) s = request (fun s => { s with dev := { s.dev with displayUnit := u } }) s := rfl

theorem exec_setPlasma (x : Bool) (s : State) :
    exec (.setPlasma x) s = request (fun s => { s with dev := { s.dev with plasma := x } }) s := rfl

theorem exec_setSleep (x : Bool) (s : State) :
    exec (.setSleep x) s = request (fun s => { s with dev := { s.dev with sleep := x } }) s := rfl

theorem exec_setXfan (x : Bool) (s : State) :
    exec (.setXfan x) s = request (fun s => { s with dev := { s.dev with xfan := x } }) s := rfl

theorem exec_setSave (x : Bool) (s : State) :
    exec (.setSave x) s = request (fun s => { s with dev := { s.dev with save := x } }) s := rfl

/-! ### Operands outside their class (30_encoding.md R81, R85) -/

theorem Fan.ofPort_eq_none : ∀ {n : Nat}, 7 < n → Fan.ofPort n = none
  | _ + 8, _ => rfl

theorem TempUnit.ofPort_eq_none : ∀ {n : Nat}, 1 < n → TempUnit.ofPort n = none
  | _ + 2, _ => rfl

theorem boolOfPort_eq_none : ∀ {n : Nat}, 1 < n → boolOfPort n = none
  | _ + 2, _ => rfl

theorem withOperand_of_none {α : Type} {operand : Option α} (h : operand = none) (mk : α → Instr) :
    withOperand operand mk = .error .illegalOperand := by
  rw [h, withOperand]

/-- A swing index is legal exactly below the size of its set. -/
theorem withOperand_indexOfPort (k : Nat) (arg : Byte) (mk : Byte → Instr) :
    withOperand (indexOfPort k arg) mk =
      if arg.toNat < k then .ok (mk arg) else .error .illegalOperand := by
  rw [indexOfPort]
  split_ifs <;> rfl

/-! ### Rows of the opcode table, by op byte (30_encoding.md R84) -/

section DecodeRows
variable (c : Config) (arg : Byte)

theorem decode_setTemp_word : decode c ((0x11 : Byte) ++ arg) = .ok (.setTemp arg) := by
  rw [decode, opOf_append, argOf_append]
  rfl

theorem decode_setFan_word : decode c ((0x12 : Byte) ++ arg) = withOperand (Fan.ofPort arg.toNat) .setFan := by
  rw [decode, opOf_append, argOf_append]
  rfl

theorem decode_setVswing_word : decode c ((0x13 : Byte) ++ arg) = withOperand (indexOfPort c.nv arg) .setVswing := by
  rw [decode, opOf_append, argOf_append]
  rfl

theorem decode_setHswing_word : decode c ((0x14 : Byte) ++ arg) = withOperand (indexOfPort c.nh arg) .setHswing := by
  rw [decode, opOf_append, argOf_append]
  rfl

theorem decode_setUnit_word : decode c ((0x16 : Byte) ++ arg) = withOperand (TempUnit.ofPort arg.toNat) .setUnit := by
  rw [decode, opOf_append, argOf_append]
  rfl

theorem decode_setPlasma_word : decode c ((0x17 : Byte) ++ arg) = withOperand (boolOfPort arg.toNat) .setPlasma := by
  rw [decode, opOf_append, argOf_append]
  rfl

theorem decode_setSleep_word : decode c ((0x18 : Byte) ++ arg) = withOperand (boolOfPort arg.toNat) .setSleep := by
  rw [decode, opOf_append, argOf_append]
  rfl

theorem decode_setXfan_word : decode c ((0x19 : Byte) ++ arg) = withOperand (boolOfPort arg.toNat) .setXfan := by
  rw [decode, opOf_append, argOf_append]
  rfl

theorem decode_setSave_word : decode c ((0x1A : Byte) ++ arg) = withOperand (boolOfPort arg.toNat) .setSave := by
  rw [decode, opOf_append, argOf_append]
  rfl

end DecodeRows

/-! ### The operand a request writes -/

/-- The clamp of SET_TEMP read as a comparison with each bound (00_scope.md R10). -/
theorem clamp_temp_eq_ite (n : Nat) :
    clamp n tempMin tempMax = if n < 16 then 16 else if 30 < n then 30 else n := by
  rw [clamp, tempMin, tempMax]
  split_ifs <;> omega

theorem swingAt_of_getElem? {set : List SwingEntry} {n : Byte} {e : SwingEntry} (h : set[n.toNat]? = some e) :
    swingAt set n = some e.pos := by
  rw [swingAt, h, Option.map_some]

/-! ### The requests -/

/-- Settles O40: the shared rule of a request, with the clamp written as comparisons. -/
theorem setTempRequest : Obligations.SetTempRequest := by
  refine ⟨fun v s hs => ?_, fun v s hs => (exec_setTemp v s).trans (request_initializing hs),
    fun c v => ⟨rfl, decode_setTemp_word c v⟩⟩
  rw [← clamp_temp_eq_ite]
  exact (exec_setTemp v s).trans (request_ready hs)

/-- Settles O41: the shared rule of a request; no fan speed has a number above 7. -/
theorem setFanRequest : Obligations.SetFanRequest := by
  refine ⟨fun f s hs => ?_, fun f s hs => ?_, rfl, fun c arg harg => ?_⟩
  · exact (exec_setFan f s).trans (request_ready hs)
  · exact (exec_setFan f s).trans (request_initializing hs)
  · exact (decode_setFan_word c arg).trans (withOperand_of_none (Fan.ofPort_eq_none harg) _)

/-- Settles O42: an index below the size of its set makes the request one of the shared form (`execSetVswing_some`,
`execSetHswing_some`), and a valid configuration puts Off and FullSwing first in both sets. -/
theorem setSwingRequests : Obligations.SetSwingRequests := by
  refine ⟨fun n s e hs he => ?_, fun n s e hs he => ?_, fun n s hs hn => ?_, fun n s hs hn => ?_,
    fun c n => ⟨?_, ?_, fun hv => ?_⟩⟩
  · exact (execSetVswing_some (swingAt_of_getElem? he)).trans (request_ready hs)
  · exact (execSetHswing_some (swingAt_of_getElem? he)).trans (request_ready hs)
  · have hat := swingAt_of_getElem? (List.getElem?_eq_getElem hn)
    exact (execSetVswing_some hat).trans (request_initializing hs)
  · have hat := swingAt_of_getElem? (List.getElem?_eq_getElem hn)
    exact (execSetHswing_some hat).trans (request_initializing hs)
  · exact (decode_setVswing_word c n).trans (withOperand_indexOfPort c.nv n .setVswing)
  · exact (decode_setHswing_word c n).trans (withOperand_indexOfPort c.nh n .setHswing)
  · obtain ⟨-, -, -, -, hvset, hhset, -⟩ := configValid_iff.mp hv
    obtain ⟨hvoff, hvfull, -⟩ := swingSet_spec hvset
    obtain ⟨hhoff, hhfull, -⟩ := swingSet_spec hhset
    exact ⟨hvoff, hvfull, hhoff, hhfull⟩

/-- Settles O44: the shared rule of a request; no unit has a number above 1. -/
theorem setUnitRequest : Obligations.SetUnitRequest := by
  refine ⟨fun u s hs => ?_, fun u s hs => ?_, rfl, fun c arg harg => ?_⟩
  · exact (exec_setUnit u s).trans (request_ready hs)
  · exact (exec_setUnit u s).trans (request_initializing hs)
  · exact (decode_setUnit_word c arg).trans (withOperand_of_none (TempUnit.ofPort_eq_none harg) _)

/-- Settles O45: the shared rule of a request, once per toggle; a boolean operand is 0 or 1. -/
theorem toggleRequests : Obligations.ToggleRequests := by
  refine ⟨fun x s hs => ?_, fun x s hs => ?_, rfl, fun c arg harg => ?_⟩
  · rw [exec_setPlasma, exec_setSleep, exec_setXfan, exec_setSave]
    exact ⟨request_ready hs, request_ready hs, request_ready hs, request_ready hs⟩
  · rw [exec_setPlasma, exec_setSleep, exec_setXfan, exec_setSave]
    exact ⟨request_initializing hs, request_initializing hs, request_initializing hs, request_initializing hs⟩
  · rw [decode_setPlasma_word, decode_setSleep_word, decode_setXfan_word, decode_setSave_word]
    have hrefused := withOperand_of_none (boolOfPort_eq_none harg)
    exact ⟨hrefused _, hrefused _, hrefused _, hrefused _⟩

end Sys2Proof.Machine
end

section
/-! PROOFS. Command words: decoding and encoding are inverse (30_encoding.md R83, R84), and the verdict on every word
(R82, R83). -/

namespace Sys2Proof.Machine

/-! ### The other rows of the opcode table, by op byte (30_encoding.md R84) -/

section DecodeRows
variable (c : Config) (arg : Byte)

theorem decode_feed_word : decode c ((0x01 : Byte) ++ arg) = .ok (.feed arg) := by
  rw [decode, opOf_append, argOf_append]
  rfl

theorem decode_poll_word : decode c ((0x02 : Byte) ++ arg) = withoutOperand arg .poll := by
  rw [decode, opOf_append, argOf_append]
  rfl

theorem decode_restart_word : decode c ((0x03 : Byte) ++ arg) = withoutOperand arg .restart := by
  rw [decode, opOf_append, argOf_append]
  rfl

theorem decode_tick_word : decode c ((0x04 : Byte) ++ arg) = withoutOperand arg .tick := by
  rw [decode, opOf_append, argOf_append]
  rfl

theorem decode_reset_word : decode c ((0x05 : Byte) ++ arg) = withoutOperand arg .reset := by
  rw [decode, opOf_append, argOf_append]
  rfl

theorem decode_setMode_word : decode c ((0x10 : Byte) ++ arg) = withOperand (Mode.ofPort arg.toNat) .setMode := by
  rw [decode, opOf_append, argOf_append]
  rfl

theorem decode_setDisplay_word :
    decode c ((0x15 : Byte) ++ arg) = withOperand (Disp.ofPort arg.toNat) .setDisplay := by
  rw [decode, opOf_append, argOf_append]
  rfl

end DecodeRows

/-! ### Operands read back from their numbers, and numbers from their operands (30_encoding.md R85) -/

theorem Mode.ofPort_toPort (m : Mode) : Mode.ofPort (BitVec.ofNat 8 m.toPort).toNat = some m := by cases m <;> rfl
theorem Fan.ofPort_toPort (f : Fan) : Fan.ofPort (BitVec.ofNat 8 f.toPort).toNat = some f := by cases f <;> rfl
theorem Disp.ofPort_toPort (d : Disp) : Disp.ofPort (BitVec.ofNat 8 d.toPort).toNat = some d := by cases d <;> rfl
theorem TempUnit.ofPort_toPort (u : TempUnit) : TempUnit.ofPort (BitVec.ofNat 8 u.toPort).toNat = some u := by
  cases u <;> rfl
theorem boolOfPort_boolToPort (x : Bool) : boolOfPort (BitVec.ofNat 8 (boolToPort x)).toNat = some x := by
  cases x <;> rfl

theorem Mode.toPort_of_ofPort {n : Nat} {m : Mode} (h : Mode.ofPort n = some m) : m.toPort = n := by
  unfold Mode.ofPort at h
  split at h <;> cases h <;> rfl

theorem Fan.toPort_of_ofPort {n : Nat} {f : Fan} (h : Fan.ofPort n = some f) : f.toPort = n := by
  unfold Fan.ofPort at h
  split at h <;> cases h <;> rfl

theorem Disp.toPort_of_ofPort {n : Nat} {d : Disp} (h : Disp.ofPort n = some d) : d.toPort = n := by
  unfold Disp.ofPort at h
  split at h <;> cases h <;> rfl

theorem TempUnit.toPort_of_ofPort {n : Nat} {u : TempUnit} (h : TempUnit.ofPort n = some u) : u.toPort = n := by
  unfold TempUnit.ofPort at h
  split at h <;> cases h <;> rfl

theorem boolToPort_of_boolOfPort {n : Nat} {x : Bool} (h : boolOfPort n = some x) : boolToPort x = n := by
  unfold boolOfPort at h
  split at h <;> cases h <;> rfl

theorem indexOfPort_eq_some {k : Nat} {arg i : Byte} (h : indexOfPort k arg = some i) : i = arg ∧ arg.toNat < k := by
  unfold indexOfPort at h
  split_ifs at h with hlt
  exact ⟨(Option.some.inj h).symm, hlt⟩

theorem Mode.ofPort_eq_none : ∀ {n : Nat}, 5 < n → Mode.ofPort n = none
  | _ + 6, _ => rfl

theorem Disp.ofPort_eq_none : ∀ {n : Nat}, 4 < n → Disp.ofPort n = none
  | _ + 5, _ => rfl

/-- The numbers of an operand class are those below its size. -/
theorem isSome_iff_lt {α : Type} {ofPort : Nat → Option α} {k : Nat} (hnone : ∀ n, k ≤ n → ofPort n = none)
    (hsome : ∀ n < k, (ofPort n).isSome = true) (n : Nat) : (ofPort n).isSome = true ↔ n < k := by
  refine ⟨fun h => ?_, hsome n⟩
  by_contra hge
  rw [hnone n (Nat.not_lt.mp hge)] at h
  cases h

theorem Mode.isSome_ofPort (n : Nat) : (Mode.ofPort n).isSome = true ↔ n < 6 :=
  isSome_iff_lt (fun _ => Mode.ofPort_eq_none) (by decide) n

theorem Fan.isSome_ofPort (n : Nat) : (Fan.ofPort n).isSome = true ↔ n < 8 :=
  isSome_iff_lt (fun _ => Fan.ofPort_eq_none) (by decide) n

theorem Disp.isSome_ofPort (n : Nat) : (Disp.ofPort n).isSome = true ↔ n < 5 :=
  isSome_iff_lt (fun _ => Disp.ofPort_eq_none) (by decide) n

theorem TempUnit.isSome_ofPort (n : Nat) : (TempUnit.ofPort n).isSome = true ↔ n < 2 :=
  isSome_iff_lt (fun _ => TempUnit.ofPort_eq_none) (by decide) n

theorem boolOfPort_isSome (n : Nat) : (boolOfPort n).isSome = true ↔ n < 2 :=
  isSome_iff_lt (fun _ => boolOfPort_eq_none) (by decide) n

theorem indexOfPort_isSome (k : Nat) (arg : Byte) : (indexOfPort k arg).isSome = true ↔ arg.toNat < k := by
  unfold indexOfPort
  split_ifs with h <;> simp [h]

/-! ### decode after encode -/

theorem withOperand_of_some {α : Type} {operand : Option α} {x : α} (h : operand = some x) (mk : α → Instr) :
    withOperand operand mk = .ok (mk x) := by
  rw [h, withOperand]

/-- Settles O51: the word of each operation is in its row, whose operand class reads the operand's number back. -/
theorem decodeOfEncodeIsIdentity : Obligations.DecodeOfEncodeIsIdentity := by
  intro c i hwf
  cases i with
  | feed b => exact decode_feed_word c b
  | poll => exact decode_poll_word c 0
  | restart => exact decode_restart_word c 0
  | tick => exact decode_tick_word c 0
  | reset => exact decode_reset_word c 0
  | setMode m => exact (decode_setMode_word c _).trans (withOperand_of_some (Mode.ofPort_toPort m) _)
  | setTemp v => exact decode_setTemp_word c v
  | setFan f => exact (decode_setFan_word c _).trans (withOperand_of_some (Fan.ofPort_toPort f) _)
  | setVswing n =>
    have hlt : n.toNat < c.nv := of_decide_eq_true hwf
    exact (decode_setVswing_word c n).trans (withOperand_of_some (if_pos hlt) _)
  | setHswing n =>
    have hlt : n.toNat < c.nh := of_decide_eq_true hwf
    exact (decode_setHswing_word c n).trans (withOperand_of_some (if_pos hlt) _)
  | setDisplay d => exact (decode_setDisplay_word c _).trans (withOperand_of_some (Disp.ofPort_toPort d) _)
  | setUnit u => exact (decode_setUnit_word c _).trans (withOperand_of_some (TempUnit.ofPort_toPort u) _)
  | setPlasma x => exact (decode_setPlasma_word c _).trans (withOperand_of_some (boolOfPort_boolToPort x) _)
  | setSleep x => exact (decode_setSleep_word c _).trans (withOperand_of_some (boolOfPort_boolToPort x) _)
  | setXfan x => exact (decode_setXfan_word c _).trans (withOperand_of_some (boolOfPort_boolToPort x) _)
  | setSave x => exact (decode_setSave_word c _).trans (withOperand_of_some (boolOfPort_boolToPort x) _)

/-- Settles O50: the nine legal words are the encodings of their operations, and the two refusals are computed. -/
theorem wordsOfTheOpcodeMap : Obligations.WordsOfTheOpcodeMap := by
  have hdec := decodeOfEncodeIsIdentity Config.excfg
  exact ⟨hdec (.feed 0x7E) rfl, hdec .poll rfl, hdec .tick rfl, hdec (.setMode .heat) rfl, hdec (.setTemp 40) rfl,
    hdec (.setFan .turbo) rfl, hdec (.setVswing 6) rfl, hdec (.setDisplay .setTemp) rfl, hdec (.setSave true) rfl,
    rfl, rfl⟩

/-! ### encode after decode -/

/-- A word is the word of its op byte and its argument. -/
theorem wordOf_argOf {w : Word} {op : Byte} (hop : (opOf w).toNat = op.toNat) : wordOf op (argOf w) = w := by
  rw [← BitVec.eq_of_toNat_eq hop]
  exact (word_split w).symm

/-- The same with the argument given by its number. -/
theorem wordOf_number {w : Word} {op : Byte} {n : Nat} (hop : (opOf w).toNat = op.toNat) (hn : n = (argOf w).toNat) :
    wordOf op (BitVec.ofNat 8 n) = w := by
  rw [hn, BitVec.ofNat_toNat, BitVec.setWidth_eq, wordOf_argOf hop]

/-- A row without an operand, when its word is legal. -/
theorem withoutOperand_ok {arg : Byte} {i j : Instr} (h : withoutOperand arg i = .ok j) : arg = 0 ∧ j = i := by
  unfold withoutOperand at h
  split_ifs at h with h0
  cases h
  exact ⟨h0, rfl⟩

/-- A row with an operand, when its word is legal. -/
theorem withOperand_ok {α : Type} {operand : Option α} {mk : α → Instr} {j : Instr}
    (h : withOperand operand mk = .ok j) : ∃ x, operand = some x ∧ j = mk x := by
  cases operand with
  | none => cases h
  | some x =>
    cases h
    exact ⟨x, rfl, rfl⟩

/-- A row without an operand encodes back to its word. -/
theorem encode_of_withoutOperand {c : Config} {w : Word} {op : Byte} {i j : Instr}
    (hop : (opOf w).toNat = op.toNat) (h : withoutOperand (argOf w) i = .ok j) (hi : encode i = wordOf op 0)
    (hwf : Instr.wf c i = true) : encode j = w ∧ Instr.wf c j = true := by
  obtain ⟨harg, rfl⟩ := withoutOperand_ok h
  rw [hi, ← harg]
  exact ⟨wordOf_argOf hop, hwf⟩

/-- A row whose operand is read from its number encodes back to its word, when the number is read back. -/
theorem encode_of_withOperand {α : Type} {c : Config} {w : Word} {op : Byte} {operand : Option α} {mk : α → Instr}
    {num : α → Nat} {j : Instr} (hop : (opOf w).toNat = op.toNat) (h : withOperand operand mk = .ok j)
    (hmk : ∀ x, encode (mk x) = wordOf op (BitVec.ofNat 8 (num x)))
    (hnum : ∀ x, operand = some x → num x = (argOf w).toNat) (hwf : ∀ x, operand = some x → Instr.wf c (mk x) = true) :
    encode j = w ∧ Instr.wf c j = true := by
  obtain ⟨x, hx, rfl⟩ := withOperand_ok h
  rw [hmk]
  exact ⟨wordOf_number hop (hnum x hx), hwf x hx⟩

/-- A swing index encodes back to its word and is below the size of its set. -/
theorem encode_of_indexOfPort {c : Config} {w : Word} {op : Byte} {k : Nat} {mk : Byte → Instr} {j : Instr}
    (hop : (opOf w).toNat = op.toNat) (h : withOperand (indexOfPort k (argOf w)) mk = .ok j)
    (hmk : ∀ n, encode (mk n) = wordOf op n) (hwf : ∀ n, Instr.wf c (mk n) = decide (n.toNat < k)) :
    encode j = w ∧ Instr.wf c j = true := by
  obtain ⟨n, hn, rfl⟩ := withOperand_ok h
  obtain ⟨rfl, hlt⟩ := indexOfPort_eq_some hn
  rw [hmk, hwf]
  exact ⟨wordOf_argOf hop, decide_eq_true hlt⟩

/-- Settles O52: row by row, the operand a legal word carries has the word's argument as its number. -/
theorem encodeOfDecodeIsIdentity : Obligations.EncodeOfDecodeIsIdentity := by
  intro c w i h
  unfold decode at h
  dsimp only at h
  split at h
  case h_1 hop => cases h; exact ⟨wordOf_argOf (op := 0x01) hop, rfl⟩
  case h_2 hop => exact encode_of_withoutOperand (op := 0x02) hop h rfl rfl
  case h_3 hop => exact encode_of_withoutOperand (op := 0x03) hop h rfl rfl
  case h_4 hop => exact encode_of_withoutOperand (op := 0x04) hop h rfl rfl
  case h_5 hop => exact encode_of_withoutOperand (op := 0x05) hop h rfl rfl
  case h_6 hop =>
    exact encode_of_withOperand (op := 0x10) hop h (fun _ => rfl) (fun _ => Mode.toPort_of_ofPort) (fun _ _ => rfl)
  case h_7 hop => cases h; exact ⟨wordOf_argOf (op := 0x11) hop, rfl⟩
  case h_8 hop =>
    exact encode_of_withOperand (op := 0x12) hop h (fun _ => rfl) (fun _ => Fan.toPort_of_ofPort) (fun _ _ => rfl)
  case h_9 hop => exact encode_of_indexOfPort (op := 0x13) hop h (fun _ => rfl) (fun _ => rfl)
  case h_10 hop => exact encode_of_indexOfPort (op := 0x14) hop h (fun _ => rfl) (fun _ => rfl)
  case h_11 hop =>
    exact encode_of_withOperand (op := 0x15) hop h (fun _ => rfl) (fun _ => Disp.toPort_of_ofPort) (fun _ _ => rfl)
  case h_12 hop =>
    exact encode_of_withOperand (op := 0x16) hop h (fun _ => rfl) (fun _ => TempUnit.toPort_of_ofPort)
      (fun _ _ => rfl)
  case h_13 hop =>
    exact encode_of_withOperand (op := 0x17) hop h (fun _ => rfl) (fun _ => boolToPort_of_boolOfPort) (fun _ _ => rfl)
  case h_14 hop =>
    exact encode_of_withOperand (op := 0x18) hop h (fun _ => rfl) (fun _ => boolToPort_of_boolOfPort) (fun _ _ => rfl)
  case h_15 hop =>
    exact encode_of_withOperand (op := 0x19) hop h (fun _ => rfl) (fun _ => boolToPort_of_boolOfPort) (fun _ _ => rfl)
  case h_16 hop =>
    exact encode_of_withOperand (op := 0x1A) hop h (fun _ => rfl) (fun _ => boolToPort_of_boolOfPort) (fun _ _ => rfl)
  case h_17 => cases h

/-! ### The verdict on every word -/

/-- The verdict of one row of the opcode table: never ILLEGAL_COMMAND, and an operation exactly when `legal`. -/
def RowVerdict (r : Except WordError Instr) (legal : Prop) : Prop :=
  r ≠ .error .illegalCommand ∧ ((∃ i, r = .ok i) ↔ legal)

theorem rowVerdict_ok (i : Instr) : RowVerdict (.ok i) True := ⟨by simp, by simp⟩

theorem rowVerdict_withoutOperand (arg : Byte) (i : Instr) :
    RowVerdict (withoutOperand arg i) (arg.toNat = 0) := by
  have hzero : arg = 0 ↔ arg.toNat = 0 := BitVec.toNat_inj.symm
  rw [← hzero]
  unfold withoutOperand
  split_ifs with h
  · exact ⟨nofun, fun _ => h, fun _ => ⟨i, rfl⟩⟩
  · exact ⟨by simp, nofun, fun h0 => absurd h0 h⟩

theorem rowVerdict_withOperand {α : Type} {operand : Option α} {legal : Prop} (mk : α → Instr)
    (h : operand.isSome = true ↔ legal) : RowVerdict (withOperand operand mk) legal := by
  rw [← h]
  cases operand <;> simp [RowVerdict, withOperand]

/-- The verdict of the row of an op byte of the table is the verdict on the word. -/
theorem RowVerdict.word {r : Except WordError Instr} {legal rows : Prop} {op : Nat} {ops : List Nat}
    (h : RowVerdict r legal) (hop : op ∈ ops) (hrows : legal ↔ rows) :
    (r = .error .illegalCommand ↔ op ∉ ops) ∧ ((∃ i, r = .ok i) ↔ rows) :=
  ⟨iff_of_false h.1 (not_not_intro hop), h.2.trans hrows⟩

/-- Settles O49: the op byte picks the row, and the row's verdict is that of its operand class. -/
theorem everyWordHasAVerdict : Obligations.EveryWordHasAVerdict := by
  rintro c w _ _ rfl rfl
  rw [← opOf_toNat, ← argOf_toNat]
  unfold decode
  dsimp only
  split
  case h_1 hop | h_7 hop => rw [hop]; exact (rowVerdict_ok _).word (by decide) (by simp)
  case h_2 hop | h_3 hop | h_4 hop | h_5 hop =>
    rw [hop]
    exact (rowVerdict_withoutOperand _ _).word (by decide) (by simp)
  case h_6 hop => rw [hop]; exact (rowVerdict_withOperand _ (Mode.isSome_ofPort _)).word (by decide) (by simp)
  case h_8 hop => rw [hop]; exact (rowVerdict_withOperand _ (Fan.isSome_ofPort _)).word (by decide) (by simp)
  case h_9 hop | h_10 hop =>
    rw [hop]
    exact (rowVerdict_withOperand _ (indexOfPort_isSome _ _)).word (by decide) (by simp [Config.nv, Config.nh])
  case h_11 hop => rw [hop]; exact (rowVerdict_withOperand _ (Disp.isSome_ofPort _)).word (by decide) (by simp)
  case h_12 hop => rw [hop]; exact (rowVerdict_withOperand _ (TempUnit.isSome_ofPort _)).word (by decide) (by simp)
  case h_13 hop | h_14 hop | h_15 hop | h_16 hop =>
    rw [hop]
    exact (rowVerdict_withOperand _ (boolOfPort_isSome _)).word (by decide) (by simp)
  case h_17 =>
    exact ⟨iff_of_true rfl (by simp_all), iff_of_false nofun (by simp_all)⟩

end Sys2Proof.Machine
end

section
/-! PROOFS. The round trip (43_encoder.md R225): what DECODE looks up in an encoded body, field by field, and the law
itself, corrected and as written; the retained mode in the bodies encoded from it (42_decoder.md R189). -/

namespace Sys2Proof.Machine

/-! ### Packed modes -/

theorem packedMode_off (lm : OnMode) : packedMode .off lm = lm := rfl

/-- A mode other than Off is packed as itself (43_encoder.md R214). -/
theorem toMode_packedMode {m : Mode} (hm : m ≠ .off) (lm : OnMode) : OnMode.toMode (packedMode m lm) = m := by
  cases m with
  | off => exact absurd rfl hm
  | auto | cool | heat | dry | fanOnly => rfl

/-- A display mode other than Off is packed as itself (43_encoder.md R218). -/
theorem toDisp_packedDisp {d : Disp} (hd : d ≠ .off) (ld : OnDisp) : OnDisp.toDisp (packedDisp d ld) = d := by
  cases d with
  | off => exact absurd rfl hd
  | auto | setTemp | actualTemp | outsideTemp => rfl

/-! ### What DECODE finds in an encoded body -/

section EncodedBody
variable {c : Config} (hv : configValid c = true) (hd : fieldsDisjoint c) (hm : markersOutsideFields c)
variable (d : DeviceState) (lm : OnMode) (ld : OnDisp) (p : PendingUpdate)
include hv hd hm

theorem field_mode_encodeBody :
    field c (encodeBody c d lm ld p) .mode = modeCode c (packedMode d.mode lm) :=
  field_encodeBody hv hd hm (by simp [packedFields]) (modeCode_lt hv _)

theorem modeOfCode_encodeBody :
    modeOfCode c (field c (encodeBody c d lm ld p) .mode) = some (packedMode d.mode lm) := by
  rw [field_mode_encodeBody hv hd hm, modeOfCode_modeCode hv]

theorem field_tempSet_encodeBody :
    field c (encodeBody c d lm ld p) .tempSet = min (max d.targetTemperature 16) 30 - 16 := by
  obtain ⟨-, -, -, hread⟩ := encodeClampsTargetTemperature c d lm ld p
  exact hread hv hd hm

/-- The four fan fields of an encoded body make up the row of its fan speed. -/
theorem fanKey_encodeBody : fanKey c (encodeBody c d lm ld p) = fanRow c d.fanMode := by
  obtain ⟨-, hfits⟩ := fanTable_spec hv
  obtain ⟨ha, hb⟩ := hfits d.fanMode
  have hA : field c (encodeBody c d lm ld p) .fanA = (fanRow c d.fanMode).a :=
    field_encodeBody hv hd hm (by simp [packedFields]) ha
  have hB : field c (encodeBody c d lm ld p) .fanB = (fanRow c d.fanMode).b :=
    field_encodeBody hv hd hm (by simp [packedFields]) hb
  have hQ : flag c (encodeBody c d lm ld p) .quiet = (fanRow c d.fanMode).quiet :=
    flag_encodeBody hv hd hm (by simp [packedFields])
  have hT : flag c (encodeBody c d lm ld p) .turbo = (fanRow c d.fanMode).turbo :=
    flag_encodeBody hv hd hm (by simp [packedFields])
  rw [fanKey, hA, hB, hQ, hT]

theorem fanOfRow_encodeBody : fanOfRow c (fanKey c (encodeBody c d lm ld p)) = some d.fanMode := by
  rw [fanKey_encodeBody hv hd hm, fanOfRow_fanRow hv]

theorem vswingOfCode_encodeBody (hp : d.verticalSwing ∈ c.vswing.map (fun e => e.pos)) :
    swingOfCode c.vswing (field c (encodeBody c d lm ld p) .vswing) = some d.verticalSwing := by
  obtain ⟨-, -, -, -, hset, -, -⟩ := configValid_iff.mp hv
  obtain ⟨hback, hfits⟩ := swingOfCode_swingCode hset hp
  rw [field_encodeBody hv hd hm (by simp [packedFields]) hfits, hback]

theorem hswingOfCode_encodeBody (hp : d.horizontalSwing ∈ c.hswing.map (fun e => e.pos)) :
    swingOfCode c.hswing (field c (encodeBody c d lm ld p) .hswing) = some d.horizontalSwing := by
  obtain ⟨-, -, -, -, -, hset, -⟩ := configValid_iff.mp hv
  obtain ⟨hback, hfits⟩ := swingOfCode_swingCode hset hp
  rw [field_encodeBody hv hd hm (by simp [packedFields]) hfits, hback]

theorem dispOfCode_encodeBody :
    dispOfCode c (field c (encodeBody c d lm ld p) .dispMode) = some (packedDisp d.displayMode ld) := by
  rw [field_encodeBody hv hd hm (by simp [packedFields]) (dispCode_lt hv (packedDisp d.displayMode ld)),
    dispOfCode_dispCode hv]

theorem unitOfCode_encodeBody :
    unitOfCode c (field c (encodeBody c d lm ld p) .dispUnit) = some d.displayUnit := by
  rw [field_encodeBody hv hd hm (by simp [packedFields]) (unitCode_lt hv d.displayUnit), unitOfCode_unitCode hv]

theorem flag_power_encodeBody : flag c (encodeBody c d lm ld p) .power = d.power :=
  flag_encodeBody hv hd hm (by simp [packedFields])

theorem flag_dispPower_encodeBody :
    flag c (encodeBody c d lm ld p) .dispPower = decide (d.displayMode ≠ .off) :=
  flag_encodeBody hv hd hm (by simp [packedFields])

theorem flag_toggles_encodeBody :
    flag c (encodeBody c d lm ld p) .plasma = d.plasma ∧ flag c (encodeBody c d lm ld p) .sleep = d.sleep ∧
      flag c (encodeBody c d lm ld p) .xfan = d.xfan ∧ flag c (encodeBody c d lm ld p) .save = d.save :=
  ⟨flag_encodeBody hv hd hm (by simp [packedFields]), flag_encodeBody hv hd hm (by simp [packedFields]),
    flag_encodeBody hv hd hm (by simp [packedFields]), flag_encodeBody hv hd hm (by simp [packedFields])⟩

/-! ### DECODE of an encoded body, register by register -/

/-- The mode comes back when it is Off exactly with the power off: the power field says which of Off and the packed
mode it was. -/
theorem decode_encodeBody_mode (hpower : d.mode ≠ .off ↔ d.power = true) (d₀ : Decoded) :
    (decodeFrom c (encodeBody c d lm ld p) d₀).dev.mode = d.mode := by
  simp only [decodeFrom_mode, modeOfCode_encodeBody hv hd hm, flag_power_encodeBody hv hd hm]
  cases hp : d.power with
  | true => exact toMode_packedMode (hpower.mpr hp) lm
  | false =>
    have hoff : ¬d.mode ≠ .off := by rw [hpower, hp]; exact Bool.false_ne_true
    exact (not_not.mp hoff).symm

theorem decode_encodeBody_targetTemperature (d₀ : Decoded) :
    (decodeFrom c (encodeBody c d lm ld p) d₀).dev.targetTemperature = min (max d.targetTemperature 16) 30 := by
  rw [decodeFrom_targetTemperature, field_tempSet_encodeBody hv hd hm, if_neg (by omega)]
  omega

theorem decode_encodeBody_displayMode (d₀ : Decoded) :
    (decodeFrom c (encodeBody c d lm ld p) d₀).dev.displayMode = d.displayMode := by
  simp only [decodeFrom_displayMode, dispOfCode_encodeBody hv hd hm, flag_dispPower_encodeBody hv hd hm,
    decide_eq_true_eq]
  split_ifs with hon
  · exact toDisp_packedDisp hon ld
  · exact (not_not.mp hon).symm

/-- Every code ENCODE packs is known to DECODE and the packed temperature is in range, so the one warning left is that
of TEMP_CUR, which ENCODE does not pack. -/
theorem field_eq_tempCur_of_mem_newWarnings (hvs : d.verticalSwing ∈ c.vswing.map (fun e => e.pos))
    (hhs : d.horizontalSwing ∈ c.hswing.map (fun e => e.pos)) {w : Warning}
    (hw : w ∈ newWarnings c (encodeBody c d lm ld p)) : w.field = .tempCur := by
  have htemp : ¬30 < field c (encodeBody c d lm ld p) .tempSet + 16 := by
    rw [field_tempSet_encodeBody hv hd hm]
    omega
  simp only [newWarnings, List.mem_append, mem_warnIf, modeOfCode_encodeBody hv hd hm, htemp,
    fanOfRow_encodeBody hv hd hm, vswingOfCode_encodeBody hv hd hm d lm ld p hvs,
    hswingOfCode_encodeBody hv hd hm d lm ld p hhs, dispOfCode_encodeBody hv hd hm, unitOfCode_encodeBody hv hd hm,
    Option.isNone_some, decide_false, Bool.false_eq_true, false_and, false_or, or_false] at hw
  rw [hw.2]

end EncodedBody

/-- Two DeviceStates with equal fields are equal. -/
theorem DeviceState.eq_of_fields {a b : DeviceState} (h₁ : a.power = b.power) (h₂ : a.mode = b.mode)
    (h₃ : a.targetTemperature = b.targetTemperature) (h₄ : a.currentTemperature = b.currentTemperature)
    (h₅ : a.fanMode = b.fanMode) (h₆ : a.verticalSwing = b.verticalSwing)
    (h₇ : a.horizontalSwing = b.horizontalSwing) (h₈ : a.displayMode = b.displayMode)
    (h₉ : a.displayUnit = b.displayUnit)
    (hr : a.plasma = b.plasma ∧ a.sleep = b.sleep ∧ a.xfan = b.xfan ∧ a.save = b.save) : a = b := by
  obtain ⟨h₁₀, h₁₁, h₁₂, h₁₃⟩ := hr
  cases a
  cases b
  simp only at *
  subst_vars
  rfl

/-- Settles O28: each register DECODE writes is looked up from a field of the body, and each field holds what ENCODE
packed there. -/
theorem decodeOfEncodeRestoresDeviceState : Obligations.DecodeOfEncodeRestoresDeviceState := by
  rintro c d lm ld p d₀ _ hv hd hm - hpower hvs hhs rfl
  refine ⟨DeviceState.eq_of_fields ?_ (decode_encodeBody_mode hv hd hm d lm ld p hpower d₀)
    (decode_encodeBody_targetTemperature hv hd hm d lm ld p d₀) rfl ?_ ?_ ?_
    (decode_encodeBody_displayMode hv hd hm d lm ld p d₀) ?_ ?_, ?_, ?_, fun w hw => ?_⟩
  · rw [decodeFrom_power, flag_power_encodeBody hv hd hm]
  · rw [decodeFrom_fanMode, fanOfRow_encodeBody hv hd hm, Option.getD_some]
  · rw [decodeFrom_verticalSwing, vswingOfCode_encodeBody hv hd hm d lm ld p hvs, Option.getD_some]
  · rw [decodeFrom_horizontalSwing, hswingOfCode_encodeBody hv hd hm d lm ld p hhs, Option.getD_some]
  · rw [decodeFrom_displayUnit, unitOfCode_encodeBody hv hd hm, Option.getD_some]
  · obtain ⟨h₁, h₂, h₃, h₄⟩ := decodeFrom_toggles c (encodeBody c d lm ld p) d₀
    rw [h₁, h₂, h₃, h₄]
    exact flag_toggles_encodeBody hv hd hm d lm ld p
  · rw [decodeFrom_lastMode, modeOfCode_encodeBody hv hd hm, Option.getD_some]
  · rw [decodeFrom_lastDisplayMode, dispOfCode_encodeBody hv hd hm, Option.getD_some]
  · rw [decodeFrom_warnings] at hw
    exact (List.mem_append.mp hw).imp_right (field_eq_tempCur_of_mem_newWarnings hv hd hm d lm ld p hvs hhs)

/-! ### The law as R225 writes it -/

theorem fieldsDisjoint_excfg : fieldsDisjoint Config.excfg := by
  unfold fieldsDisjoint
  decide

theorem markersOutsideFields_excfg : markersOutsideFields Config.excfg := by
  unfold markersOutsideFields
  decide

/-- The reset DeviceState with the power on: mode Off all the same, as decision D12 allows. -/
def poweredWithModeOff : DeviceState := { DeviceState.reset with power := true }

/-- Refutes O29: under EXCFG, the power on with mode Off packs the retained mode Auto with the power bit set, and that
decodes to Auto. -/
theorem not_roundTripAsWrittenInR225 : ¬Obligations.RoundTripAsWrittenInR225 := by
  intro law
  obtain ⟨hdev, -⟩ := law Config.excfg poweredWithModeOff .auto .auto .none
    { dev := poweredWithModeOff, lastMode := .auto, lastDisplayMode := .auto, warnings := [] } _ (by decide)
    fieldsDisjoint_excfg markersOutsideFields_excfg (by decide) (by decide) (by decide) (by decide) rfl
  have hmode := congrArg DeviceState.mode hdev
  revert hmode
  decide

/-! ### The retained mode -/

/-- Settles O23: DECODE looks the mode up and keeps it as last_mode; every body encoded with mode Off packs last_mode
(`packedMode_off`). -/
theorem poweredOffReportKeepsTheModeCode : Obligations.PoweredOffReportKeepsTheModeCode := by
  rintro c body d _ m p hv hd hm rfl hoff hcode
  have hknown : modeOfCode c (field c body .mode) = some m := hcode ▸ modeOfCode_modeCode hv m
  refine ⟨?_, ?_, ?_, fun e ld he => ⟨?_, ?_⟩⟩
  · rw [decodeFrom_power, flag, hoff]
    rfl
  · rw [decodeFrom_mode_of_known d hknown, if_neg (not_not_intro hoff)]
  · rw [decodeFrom_lastMode, hknown, Option.getD_some]
  · rw [field_mode_encodeBody hv hd hm, he, packedMode_off]
  · exact field_encodeBody hv hd hm (v := b2n e.power) (by simp [packedFields]) (b2n_fits hv _ _)

end Sys2Proof.Machine
end

section
/-! PROOFS. DECODE of the fan, the display, the unit and the toggles, its warnings and what it depends on
(42_decoder.md R178, R179, R182 to R184, R187, R188). -/

namespace Sys2Proof.Machine

/-! ### Which warnings DECODE logs, from an empty log -/

section Warnings
variable {c : Config} {body : List Byte} {d : Decoded} (hd : d.warnings = [])
include hd

theorem fanWarning_mem_iff :
    ⟨.unknownFieldValue, .fanA⟩ ∈ (decodeFrom c body d).warnings ↔ fanOfRow c (fanKey c body) = none := by
  rw [mem_decodeFrom_warnings hd]
  simp [newWarnings, mem_warnIf]

theorem dispModeWarning_mem_iff :
    ⟨.unknownFieldValue, .dispMode⟩ ∈ (decodeFrom c body d).warnings ↔
      dispOfCode c (field c body .dispMode) = none := by
  rw [mem_decodeFrom_warnings hd]
  simp [newWarnings, mem_warnIf]

theorem dispUnitWarning_mem_iff :
    ⟨.unknownFieldValue, .dispUnit⟩ ∈ (decodeFrom c body d).warnings ↔
      unitOfCode c (field c body .dispUnit) = none := by
  rw [mem_decodeFrom_warnings hd]
  simp [newWarnings, mem_warnIf]

end Warnings

/-! ### The fan -/

/-- The three rows of FAN_TABLE the source gives (00_scope.md R7). -/
theorem fanRow_of_source {c : Config} (hv : configValid c = true) :
    fanRow c .low = ⟨1, 1, false, false⟩ ∧ fanRow c .quiet = ⟨1, 1, true, false⟩ ∧
      fanRow c .turbo = ⟨5, 3, false, true⟩ := by
  obtain ⟨-, -, -, hfan, -⟩ := configValid_iff.mp hv
  simp only [fanTableOk, Bool.and_eq_true, decide_eq_true_eq] at hfan
  obtain ⟨⟨⟨-, hlow⟩, hquiet⟩, hturbo⟩ := hfan
  exact ⟨hlow, hquiet, hturbo⟩

/-- A body whose fan combination is the row of a speed decodes to that speed. -/
theorem decodeFrom_fanMode_of_row {c : Config} {body : List Byte} {f : Fan} (hv : configValid c = true)
    (d : Decoded) (h : fanRow c f = fanKey c body) : (decodeFrom c body d).dev.fanMode = f := by
  rw [decodeFrom_fanMode, ← h, fanOfRow_fanRow hv, Option.getD_some]

/-- Settles O18: the exact-match lookup in FAN_TABLE, found or not; the first case holds the three rows the source
gives. -/
theorem decodeMatchesFanTable : Obligations.DecodeMatchesFanTable := by
  rintro c body d _ row hv hd rfl hrow
  have hkey : row = fanKey c body := hrow
  obtain ⟨hlow, hquiet, hturbo⟩ := fanRow_of_source hv
  have hknown (f : Fan) (hf : fanRow c f = row) : (decodeFrom c body d).dev.fanMode = f :=
    decodeFrom_fanMode_of_row hv d (hf.trans hkey)
  refine ⟨fun f hf => ⟨hknown f hf, ?_⟩, fun hnone => ?_, fun h => hknown _ (hlow.trans h.symm),
    fun h => hknown _ (hquiet.trans h.symm), fun h => hknown _ (hturbo.trans h.symm)⟩
  · rw [fanWarning_mem_iff hd, ← hkey, ← hf, fanOfRow_fanRow hv]
    exact Option.some_ne_none f
  · have hlook : fanOfRow c (fanKey c body) = none := fanOfRow_none.mpr (hkey ▸ hnone)
    refine ⟨?_, (fanWarning_mem_iff hd).mpr hlook⟩
    rw [decodeFrom_fanMode, hlook, Option.getD_none]

/-! ### Display mode, unit and toggles -/

theorem decodeFrom_displayMode_of_known {c : Config} {body : List Byte} {m : OnDisp} (d : Decoded)
    (h : dispOfCode c (field c body .dispMode) = some m) :
    (decodeFrom c body d).dev.displayMode = if field c body .dispPower ≠ 0 then OnDisp.toDisp m else .off := by
  simp only [decodeFrom_displayMode, h, flag, decide_eq_true_eq]

theorem decodeFrom_displayMode_of_unknown {c : Config} {body : List Byte} (d : Decoded)
    (h : dispOfCode c (field c body .dispMode) = none) : (decodeFrom c body d).dev.displayMode = .off := by
  simp only [decodeFrom_displayMode, h]

/-- Settles O20: the two lookups by code, each found or not, and the four flags. -/
theorem decodeDisplayUnitAndToggles : Obligations.DecodeDisplayUnitAndToggles := by
  rintro c body d _ hv hd rfl
  refine ⟨fun m hm => ?_, fun hnone => ?_, fun u hu => ?_, fun hnone => ?_, decodeFrom_toggles c body d⟩
  · have hlook : dispOfCode c (field c body .dispMode) = some m := hm ▸ dispOfCode_dispCode hv m
    refine ⟨?_, decodeFrom_displayMode_of_known d hlook, ?_⟩
    · rw [decodeFrom_lastDisplayMode, hlook, Option.getD_some]
    · rw [dispModeWarning_mem_iff hd, hlook]
      exact Option.some_ne_none m
  · have hlook : dispOfCode c (field c body .dispMode) = none := dispOfCode_none.mpr hnone
    refine ⟨?_, decodeFrom_displayMode_of_unknown d hlook, (dispModeWarning_mem_iff hd).mpr hlook⟩
    rw [decodeFrom_lastDisplayMode, hlook, Option.getD_none]
  · have hlook : unitOfCode c (field c body .dispUnit) = some u := hu ▸ unitOfCode_unitCode hv u
    rw [decodeFrom_displayUnit, dispUnitWarning_mem_iff hd, hlook]
    exact ⟨rfl, Option.some_ne_none u⟩
  · have hlook : unitOfCode c (field c body .dispUnit) = none := unitOfCode_none.mpr hnone
    rw [decodeFrom_displayUnit, dispUnitWarning_mem_iff hd, hlook]
    exact ⟨rfl, rfl⟩

/-! ### The warnings in order, and what DECODE depends on -/

theorem warnIf_sublist (x : Bool) (k : WarningKind) (f : BodyField) : List.Sublist (warnIf x k f) [⟨k, f⟩] := by
  cases x with
  | false => exact List.nil_sublist _
  | true => exact List.Sublist.refl _

/-- The eight warnings a DECODE can append, in the order of its steps (42_decoder.md R187). -/
theorem newWarnings_sublist (c : Config) (body : List Byte) :
    List.Sublist (newWarnings c body)
      [⟨.unknownFieldValue, .mode⟩, ⟨.outOfRangeTemperature, .tempSet⟩, ⟨.outOfRangeTemperature, .tempCur⟩,
       ⟨.unknownFieldValue, .fanA⟩, ⟨.unknownFieldValue, .vswing⟩, ⟨.unknownFieldValue, .hswing⟩,
       ⟨.unknownFieldValue, .dispMode⟩, ⟨.unknownFieldValue, .dispUnit⟩] :=
  (warnIf_sublist ..).append <| (warnIf_sublist ..).append <| (warnIf_sublist ..).append <|
    (warnIf_sublist ..).append <| (warnIf_sublist ..).append <| (warnIf_sublist ..).append <|
    (warnIf_sublist ..).append (warnIf_sublist ..)

/-- Settles O21: each step appends its own warning or none. -/
theorem decodeWarnsInFieldOrder : Obligations.DecodeWarnsInFieldOrder := fun c body d =>
  ⟨newWarnings c body, decodeFrom_warnings c body d, (newWarnings_sublist c body).length_le,
    newWarnings_sublist c body⟩

/-- Settles O22: the closed form of DECODE reads the two temperatures, the two retention registers and the warnings of
its start, and no other register. -/
theorem decodeOverwritesAllButRetainedFields : Obligations.DecodeOverwritesAllButRetainedFields := by
  intro c body d e htarget hcurrent hmode hdisp hwarnings
  rw [decodeFrom_eq, decodeFrom_eq, htarget, hcurrent, hmode, hdisp, hwarnings]

end Sys2Proof.Machine
end

section
/-! PROOFS. The constants, the markers and the clear bits of an encoded body (43_encoder.md R211 to R213, R224,
R226). -/

namespace Sys2Proof.Machine

/-- The marker indices and those of the constants lie inside the body (30_encoding.md R91). -/
theorem markers_spec {c : Config} (hv : configValid c = true) :
    c.applyIdx < txBodyLen ∧ c.ncIdx < txBodyLen ∧ ∀ e ∈ c.constBits, e.1 < txBodyLen := by
  obtain ⟨-, hmarkers, -⟩ := configValid_iff.mp hv
  simp only [markersOk, Bool.and_eq_true, decide_eq_true_eq, List.all_eq_true] at hmarkers
  obtain ⟨⟨⟨happly, hnc⟩, hconst⟩, -⟩ := hmarkers
  exact ⟨happly, hnc, hconst⟩

/-- Bits of a body's byte that neither the marker nor the flag writes are those of the body before it. -/
theorem and_markBody_of_outside {c : Config} {p : PendingUpdate} {j : Nat} {m : Byte}
    (hconst : p ≠ .started ∨ j ≠ c.applyIdx → ∀ e ∈ c.constBits, e.1 = j → e.2 &&& m = 0)
    (hmark : p = .started → j = c.applyIdx → applyMark &&& m = 0)
    (hflag : p = .none → j = c.ncIdx → c.ncMask &&& m = 0) :
    (markBody c p (constBody c)).getD j 0 &&& m = 0 := by
  cases p with
  | started =>
    rw [markBody, getD_set]
    split_ifs with hj
    · exact hmark rfl hj.1
    · by_cases hidx : j = c.applyIdx
      · rw [hidx, List.getD_eq_default _ _ (by simpa [hidx] using hj)]
        exact BitVec.zero_and
      · exact and_constBody_of_outside (hconst (.inr hidx))
  | clearing => exact and_constBody_of_outside (hconst (.inl nofun))
  | none =>
    rw [markBody, and_orByte_of_outside fun h => hflag rfl h.symm]
    exact and_constBody_of_outside (hconst (.inl nofun))

/-- Packing the fields leaves the bits of a byte that no encoded field has. -/
theorem and_encodeBody_of_outside {c : Config} {d : DeviceState} {lm : OnMode} {ld : OnDisp} {p : PendingUpdate}
    {j : Nat} {m : Byte}
    (h : ∀ f ∈ encodedFields, (fieldDesc c f).idx = j → (fieldDesc c f).mask &&& m = 0) :
    (encodeBody c d lm ld p).getD j 0 &&& m = (markBody c p (constBody c)).getD j 0 &&& m :=
  and_foldl_put_of_outside fun e he => h e.1 (packedFields_fst c d lm ld ▸ List.mem_map_of_mem (f := Prod.fst) he)

/-- Bits no encoded field, constant, marker or flag of a body has are 0 in it (43_encoder.md R224). -/
theorem and_encodeBody_eq_zero {c : Config} {d : DeviceState} {lm : OnMode} {ld : OnDisp} {p : PendingUpdate}
    {j : Nat} {m : Byte}
    (hfields : ∀ f ∈ encodedFields, (fieldDesc c f).idx = j → (fieldDesc c f).mask &&& m = 0)
    (hconst : p ≠ .started ∨ j ≠ c.applyIdx → ∀ e ∈ c.constBits, e.1 = j → e.2 &&& m = 0)
    (hmark : p = .started → j = c.applyIdx → applyMark &&& m = 0)
    (hflag : p = .none → j = c.ncIdx → c.ncMask &&& m = 0) :
    (encodeBody c d lm ld p).getD j 0 &&& m = 0 :=
  (and_encodeBody_of_outside hfields).trans (and_markBody_of_outside hconst hmark hflag)

theorem getD_markBody_started {c : Config} (hi : c.applyIdx < txBodyLen) :
    (markBody c .started (constBody c)).getD c.applyIdx 0 = applyMark := by
  rw [markBody, getD_set, if_pos ⟨rfl, by rwa [length_constBody]⟩]

/-- Where the markers lie outside the fields, no field has a byte at the apply-now index, so a whole byte there is what
the constants and the markers made it. -/
theorem getD_encodeBody_applyIdx {c : Config} (hm : markersOutsideFields c) (d : DeviceState) (lm : OnMode)
    (ld : OnDisp) (p : PendingUpdate) :
    (encodeBody c d lm ld p).getD c.applyIdx 0 = (markBody c p (constBody c)).getD c.applyIdx 0 := by
  have h := and_encodeBody_of_outside (d := d) (lm := lm) (ld := ld) (p := p) (m := BitVec.allOnes 8)
    fun f hf hidx => absurd hidx (hm f hf).1
  rwa [BitVec.and_allOnes, BitVec.and_allOnes] at h

/-- Settles O25: what is set stays set while fields are packed (`and_foldl_put`), and what nothing writes stays clear
(`and_encodeBody_eq_zero`). -/
theorem markersFollowPending : Obligations.MarkersFollowPending := by
  rintro c d lm ld _ hv rfl
  obtain ⟨happly, hnc, hconst⟩ := markers_spec hv
  refine ⟨?_, ?_, fun p e he hp => ?_, fun p j m => and_encodeBody_eq_zero, fun hm => ⟨?_, fun hclear => ?_,
    fun hclear => ?_⟩⟩
  · exact and_foldl_put (by rw [getD_markBody_started happly]; rfl)
  · exact and_foldl_put (and_orByte_self (by rwa [length_constBody]))
  · exact and_foldl_put (and_markBody (and_constBody he (hconst e he)) hp)
  · rw [getD_encodeBody_applyIdx hm, getD_markBody_started happly]
    rfl
  · have hfields (f : BodyField) (hf : f ∈ encodedFields) (hidx : (fieldDesc c f).idx = c.ncIdx) :
        (fieldDesc c f).mask &&& c.ncMask = 0 := (hm f hf).2.1 hidx
    exact ⟨and_encodeBody_eq_zero hfields (fun _ => hclear) nofun nofun,
      fun hne => and_encodeBody_eq_zero hfields (fun _ => hclear) (fun _ h => absurd h hne) nofun⟩
  · have hzero (p : PendingUpdate) (hp : p ≠ .started) (hflag : p = .none → c.ncIdx ≠ c.applyIdx) :
        (encodeBody c d lm ld p).getD c.applyIdx 0 = 0 := by
      have h := and_encodeBody_eq_zero (c := c) (d := d) (lm := lm) (ld := ld) (p := p) (j := c.applyIdx)
        (m := BitVec.allOnes 8) (fun f hf hidx => absurd hidx (hm f hf).1) (fun _ e he h => absurd h (hclear e he))
        (fun h => absurd h hp) (fun h hidx => absurd hidx.symm (hflag h))
      rwa [BitVec.and_allOnes] at h
    exact ⟨hzero .clearing nofun nofun, fun hne => hzero .none nofun fun _ => hne⟩

/-- Settles O26: no packed value is computed from current_temperature. -/
theorem encodeIgnoresCurrentTemperature : Obligations.EncodeIgnoresCurrentTemperature :=
  fun _ _ _ _ _ _ => rfl

end Sys2Proof.Machine
end

section
/-! PROOFS. FEED in Receiving and what FEED stores (40_receiver.md R121 to R126), POLL of a complete frame (R127) and
RESTART (R129). -/

namespace Sys2Proof.Machine

/-! ### FEED in Receiving -/

theorem exec_feed_receiving {b : Byte} {s : State} (hs : s.rxState = .receiving) (hcap : s.rxCount < 258) :
    exec (.feed b) s =
      accepted (stateAtCount (s.rxCount + 1) (if s.rxCount + 1 = 3 then frameLen s.cfg b else s.rxNeed))
        (Memory.write s.rxBuf s.rxCount b) (s.rxCount + 1)
        (if s.rxCount + 1 = 3 then frameLen s.cfg b else s.rxNeed) s := by
  show execFeed b s = _
  rw [execFeed, hs]
  show feedReceiving b s = _
  rw [feedReceiving, rxCap, if_pos hcap]

/-- n(L) fits the receive buffer (30_encoding.md R88, decision D4). -/
theorem frameLen_bounds (c : Config) (b : Byte) : 3 ≤ frameLen c b ∧ frameLen c b ≤ 258 := by
  have hb := b.isLt
  unfold frameLen
  split <;> omega

/-- Settles O5: the third byte is past, so rx_need stays. -/
theorem feedAppendsFrameByte : Obligations.FeedAppendsFrameByte := by
  intro b s hs hcount hneed hcap
  have hthird : ¬s.rxCount + 1 = 3 := by omega
  rw [exec_feed_receiving hs (by omega), if_neg hthird, accepted_eq, stateAtCount]

/-- What FEED stores, byte by byte, in each of its six ways. -/
theorem FeedCase.buffer {b : Byte} {s : State} {st : ReceiveState} {buf : Memory} {count need : Nat}
    (h : FeedCase b s st buf count need) (hwf : Memory.wf s.rxBuf = true) :
    Memory.wf buf = true ∧ ∀ i, Memory.read buf i =
      if (s.rxState = .awaitingSync ∧ s.rxCount = 0 ∧ b = 0x7E ∧ i = 0) ∨
         (s.rxState = .awaitingSync ∧ s.rxCount ≠ 0 ∧ b = 0x7E ∧ i = 1) ∨
         (s.rxState = .receiving ∧ i = s.rxCount)
      then b else Memory.read s.rxBuf i := by
  cases h with
  | firstSync hs hcount hb =>
    exact ⟨Memory.wf_write (by decide) hwf, fun i => by simp [Memory.read_write hwf, hs, hcount, hb, sync]⟩
  | noise hs hcount hb =>
    have hb' : b ≠ 126#8 := hb
    exact ⟨hwf, fun i => by simp [hs, hb']⟩
  | secondSync hs hcount hb =>
    exact ⟨Memory.wf_write (by decide) hwf, fun i => by simp [Memory.read_write hwf, hs, hcount, hb, sync]⟩
  | brokenPair hs hcount hb =>
    have hb' : b ≠ 126#8 := hb
    exact ⟨hwf, fun i => by simp [hs, hb']⟩
  | length hs hcount =>
    exact ⟨Memory.wf_write (by decide) hwf, fun i => by simp [Memory.read_write hwf, hs, hcount]⟩
  | data hs hcount hcap =>
    exact ⟨Memory.wf_write hcap hwf, fun i => by simp [Memory.read_write hwf, hs]⟩

/-- Settles O6: a BUSY FEED stores nothing, and an accepted one is one of the six ways of FeedCase. -/
theorem feedStoresAtMostOneByte : Obligations.FeedStoresAtMostOneByte := by
  intro b s t hwf h
  obtain ⟨hfull, rfl⟩ | ⟨st, buf, count, need, hcase, rfl⟩ := execFeed_cases h
  · refine ⟨hwf, fun i => (if_neg ?_).symm⟩
    rcases hfull with hs | hs <;> simp [hs]
  · exact hcase.buffer hwf

/-! ### POLL of a complete frame -/

theorem exec_poll_complete {s : State} (hs : s.rxState = .complete) : exec .poll s = pollComplete s := by
  show execPoll s = _
  rw [execPoll, hs]

/-- POLL of a frame VERIFY rejects (40_receiver.md R127, 41_validator.md R157). -/
theorem exec_poll_rejected {s : State} {r : Status} (hs : s.rxState = .complete) (hneed : s.rxNeed ≤ 258)
    (hver : verify s.cfg (Memory.readRange s.rxBuf s.rxNeed) = r) (hr : r ≠ .ok) :
    exec .poll s = .next
      { s with
        rxState := .awaitingSync, rxCount := 0, rxNeed := 0
        resp := { status := r, event := .complete }, tx := none } := by
  rw [exec_poll_complete hs, pollComplete, rxCap, if_pos hneed]
  dsimp only
  rw [hver]
  split
  · exact absurd rfl hr
  · rfl

/-- POLL of a frame VERIFY accepts (40_receiver.md R127, 44_sequencer.md R241). -/
theorem exec_poll_accepted {s : State} (hs : s.rxState = .complete) (hneed : s.rxNeed ≤ 258)
    (hver : verify s.cfg (Memory.readRange s.rxBuf s.rxNeed) = .ok) :
    exec .poll s = takeReport (Memory.readRange s.rxBuf s.rxNeed) (emptyReceiver .awaitingSync s) := by
  rw [exec_poll_complete hs, pollComplete, rxCap, if_pos hneed]
  dsimp only
  rw [hver]

/-- The report body f[4 .. n-2] as a stretch of n - 5 bytes (20_memory.md R66). -/
theorem bodyOf_eq (f : List Byte) : bodyOf f = (f.drop 4).take (f.length - 5) := by
  rw [bodyOf, List.drop_take, Nat.sub_sub]

/-- Settles O8: the rule of a rejected frame. -/
theorem pollDropsRejectedFrame : Obligations.PollDropsRejectedFrame :=
  fun _ _ hs hneed hver hr => exec_poll_rejected hs hneed hver hr

/-- Settles O9: the rule of an accepted frame, with its body read as a stretch of the frame. -/
theorem pollTakesAcceptedReport : Obligations.PollTakesAcceptedReport := by
  rintro s f d hs hneed hf hver rfl
  have hframe : f = Memory.readRange s.rxBuf s.rxNeed := hf
  have hbody : (f.drop 4).take (s.rxNeed - 5) = bodyOf f := by
    rw [bodyOf_eq, hframe, Memory.length_readRange]
  rw [exec_poll_accepted hs hneed (hframe ▸ hver), ← hframe, hbody]
  rfl

/-- Settles O4: LEN is the third byte, and n(L) lies between 3 and 258; a frame of 3 bytes is complete at once and too
short for VERIFY. -/
theorem feedTakesLengthByte : Obligations.FeedTakesLengthByte := by
  intro b s n hs hcount hn
  have hlen : n = frameLen s.cfg b := hn
  obtain ⟨hge, hle⟩ := frameLen_bounds s.cfg b
  refine ⟨hlen ▸ hge, hlen ▸ hle, _, exec_feed_receiving hs (by omega), ?_, fun h3 => ?_⟩
  · have hfull : stateAtCount 3 n = if n = 3 then .complete else .receiving := if_congr eq_comm rfl rfl
    rw [hcount, if_pos rfl, ← hlen, hfull]
    rfl
  · rw [hcount, if_pos rfl, ← hlen, h3]
    exact ⟨_, exec_poll_rejected rfl (show 3 ≤ 258 by decide) (verify_of_short (by simp)) (by decide), rfl⟩

/-- A POLL leaves no complete frame and no Restart behind. -/
theorem exec_poll_makes_room {s t : State} (h : exec .poll s = .next t) :
    t.rxState ≠ .complete ∧ t.rxState ≠ .restart := by
  obtain ⟨-, -, r, -, -, rfl⟩ | ⟨-, -, -, d, -, rfl⟩ | ⟨-, rfl⟩ | ⟨hs, rfl⟩ := execPoll_cases h
  · exact ⟨nofun, nofun⟩
  · exact ⟨nofun, nofun⟩
  · exact ⟨nofun, nofun⟩
  · rcases hs with hs | hs <;> exact ⟨by simp [hs], by simp [hs]⟩

/-- Settles O10: a FEED is BUSY only in the two states a POLL leaves. -/
theorem pollMakesRoomForFeed : Obligations.PollMakesRoomForFeed := by
  intro b s t u hpoll hfeed
  obtain ⟨hcomplete, hrestart⟩ := exec_poll_makes_room hpoll
  obtain ⟨hfull, -⟩ | ⟨st, buf, count, need, -, rfl⟩ := execFeed_cases hfeed
  · exact (hfull.elim hcomplete hrestart).elim
  · rfl

/-! ### RESTART -/

theorem withoutOperand_of_ne {arg : Byte} (h : arg ≠ 0) (i : Instr) :
    withoutOperand arg i = .error .illegalOperand := if_neg h

/-- Settles O11: RESTART empties the receiver into AwaitingSync, where a POLL has no event. -/
theorem restartDiscardsTheFrame : Obligations.RestartDiscardsTheFrame :=
  ⟨rfl, fun c arg harg => (decode_restart_word c arg).trans (withoutOperand_of_ne harg _),
    fun _ => ⟨_, rfl, rfl, _, exec_poll_noEvent (.inl rfl), rfl⟩⟩

end Sys2Proof.Machine
end

section
/-! PROOFS. The body-length check of VERIFY (41_validator.md R155) and the echo of the block's own frame
(70_reset_and_hazards.md R338). -/

namespace Sys2Proof.Machine

/-- REPORT_MIN_BODY bytes are enough exactly when every field's index is inside (30_encoding.md R91). -/
theorem reportMinBody_le_iff {c : Config} {n : Nat} :
    reportMinBody c ≤ n ↔ ∀ g : BodyField, (fieldDesc c g).idx < n := by
  rw [reportMinBody]
  refine ⟨fun h g => ?_, fun h => ?_⟩
  · have hle : (fieldDesc c g).idx ≤ (BodyField.all.map (fun f => (fieldDesc c f).idx)).foldr max 0 :=
      List.le_max_of_le (List.mem_map_of_mem (BodyField.mem_all g)) le_rfl
    omega
  · have hpos := h .power
    have hmax : (BodyField.all.map (fun f => (fieldDesc c f).idx)).foldr max 0 ≤ n - 1 := by
      refine List.max_le_of_forall_le _ _ fun i hi => ?_
      obtain ⟨g, -, rfl⟩ := List.mem_map.mp hi
      exact Nat.le_sub_one_of_lt (h g)
    omega

theorem verify_mem (c : Config) (f : List Byte) :
    verify c f ∈ [Status.ok, .tooShort, .unknownCommand, .badChecksum, .bodyTooShort] := by
  unfold verify
  split_ifs <;> decide

/-- A frame that passes the first three checks is judged by its body's length alone. -/
theorem verify_of_passed {c : Config} {f : List Byte} (h : verify c f = .bodyTooShort ∨ verify c f = .ok) :
    verify c f = if f.length - 5 < reportMinBody c then .bodyTooShort else .ok := by
  unfold verify at h ⊢
  split_ifs at h ⊢ <;> simp_all

/-- Settles O13: REPORT_MIN_BODY is one more than the highest index of a field (`reportMinBody_le_iff`). -/
theorem verifyChecksBodyLengthLast : Obligations.VerifyChecksBodyLengthLast := by
  intro c f
  refine ⟨fun h => ?_, fun hok g => ?_, verify_mem c f⟩
  · have hiff : f.length - 5 < reportMinBody c ↔ ∃ g : BodyField, f.length - 5 ≤ (fieldDesc c g).idx := by
      rw [← Nat.not_le, reportMinBody_le_iff]
      simp only [not_forall, Nat.not_lt]
    rw [verify_of_passed h, ← hiff]
    split_ifs with hshort <;> simp [hshort]
  · have hlong : ¬f.length - 5 < reportMinBody c := fun hshort => by
      rw [verify_of_passed (.inr hok), if_pos hshort] at hok
      cases hok
    have hidx := reportMinBody_le_iff.mp (Nat.not_lt.mp hlong) g
    rw [List.length_take, List.length_drop]
    omega

/-- The block's own command byte is not an accepted one (41_validator.md R153). -/
theorem verify_txFrame (c : Config) (u : State) : verify c (txFrame u) = .unknownCommand := by
  have hlen : (txFrame u).length = 50 := length_txFrame u
  have hcmd : (txFrame u).getD 3 0 = cmdSet := rfl
  exact verify_of_otherCommand (by omega) (by rw [hcmd]; decide)

/-- Settles O14: an own frame is rejected for its command byte. -/
theorem echoIsRejected : Obligations.EchoIsRejected := by
  intro s u hs hneed hecho
  have hframe : Memory.readRange s.rxBuf s.rxNeed = txFrame u := hneed ▸ hecho
  exact exec_poll_rejected hs (by omega) (hframe ▸ verify_txFrame s.cfg u) (by decide)

end Sys2Proof.Machine
end

section
/-! PROOFS. TICK: the stall check (40_receiver.md R130), the inactivity timeout (44_sequencer.md R242), the throttle
(R244, R245) and the pending sequence (R247, R248). -/

namespace Sys2Proof.Machine

theorem stallCheck_of_stalled {s : State} (h : stalled s = true) : stallCheck s = emptyReceiver .restart s := if_pos h

theorem stallCheck_of_not_stalled {s : State} (h : ¬stalled s = true) : stallCheck s = s := if_neg h

/-- TICK answers from every state and stores no byte. -/
theorem exec_tick_answers (s : State) :
    ∃ t, exec .tick s = .next t ∧ t.rxBuf = s.rxBuf ∧ t.lastByteMs = s.lastByteMs := by
  obtain ⟨-, htick⟩ | ⟨-, -, -, htick⟩ | ⟨-, -, htick⟩ := execTick_cases s
  all_goals
    refine ⟨_, htick, ?_, ?_⟩ <;> rw [stallCheck_eq]

/-- Settles O30: the stall check empties the receiver or leaves it, as its comparison says (`stalled_iff`). -/
theorem tickAbandonsStalledFrame : Obligations.TickAbandonsStalledFrame := by
  intro s stall hstall
  have hiff : stalled s = true ↔ stall := stalled_iff.trans hstall.symm
  obtain ⟨t, htick, hbuf, hbyte⟩ := exec_tick_answers s
  obtain ⟨hstate, hcount, hneed⟩ := exec_tick_receiver htick
  refine ⟨t, htick, hbuf, hbyte, fun hs => ?_, fun hs => ?_⟩
  · rw [hstate, hcount, hneed, stallCheck_of_stalled (hiff.mpr hs)]
    exact ⟨rfl, rfl, rfl⟩
  · rw [hstate, hcount, hneed, stallCheck_of_not_stalled (mt hiff.mp hs)]
    exact ⟨rfl, rfl, rfl⟩

/-- Settles O31: TICK drops the link in exactly one of its three ways. -/
theorem tickDropsSilentLink : Obligations.TickDropsSilentLink := by
  intro s
  obtain ⟨hexp, htick⟩ | ⟨hexp, -, -, htick⟩ | ⟨hexp, -, htick⟩ := execTick_cases s
  · refine ⟨_, htick, fun _ => ?_, fun h => absurd (linkExpired_iff.mp hexp) h⟩
    rw [stallCheck_eq]
  all_goals
    refine ⟨_, htick, fun h => ?_, fun _ => ⟨?_, rfl⟩⟩
    · rw [linkExpired_iff.mpr h] at hexp
      cases hexp
    · rw [stallCheck_eq]

/-- Settles O33: Initializing, or a response awaited within T_TX_MIN, is the holding case of TICK
(`execTick_holds`). -/
theorem tickHoldsBackOtherwise : Obligations.TickHoldsBackOtherwise := by
  intro s hcase
  have hholds : linkExpired s = false ∧ (s.link = .initializing ∨ throttleOk s = false) := by
    rcases hcase with hinit | ⟨-, halive, hawait, hsoon⟩
    · refine ⟨Bool.eq_false_iff.mpr fun hexp => ?_, .inl hinit⟩
      cases hinit.symm.trans (linkExpired_iff.mp hexp).1
    · refine ⟨linkExpired_eq_false halive, .inr (Bool.eq_false_iff.mpr fun hok => ?_)⟩
      rcases throttleOk_iff.mp hok with hfree | hlate
      · cases hawait.symm.trans hfree
      · omega
  obtain ⟨hexp, hgate⟩ := hholds
  refine ⟨_, execTick_holds hexp hgate, ?_⟩
  rw [stallCheck_eq]

/-- A TICK that transmits found the link Ready and kept it, sent the frame of the state as it stood, and advanced the
pending value (44_sequencer.md R246, R247). -/
theorem exec_tick_transmitted {s t : State} (h : exec .tick s = .next t) (htx : t.tx ≠ none) :
    s.link = .ready ∧ t.link = .ready ∧ t.tx = some (txFrame s) ∧ t.pending = nextPending s.pending := by
  have h : execTick s = .next t := h
  obtain ⟨-, htick⟩ | ⟨-, hready, -, htick⟩ | ⟨-, -, htick⟩ := execTick_cases s
  · cases h.symm.trans htick
    exact absurd rfl htx
  · cases h.symm.trans htick
    refine ⟨hready, ?_, rfl, rfl⟩
    rw [stallCheck_eq]
    exact hready
  · cases h.symm.trans htick
    exact absurd rfl htx

theorem txFrame_of_pending {s : State} {p : PendingUpdate} (h : s.pending = p) :
    txFrame s = frameOf s.cfg (encodeBody s.cfg s.dev s.lastMode s.lastDisplayMode p) := by
  rw [txFrame, h]

/-- Settles O34: each transmission sends the frame of the pending value it finds and leaves the next one. -/
theorem pendingUpdateSequence : Obligations.PendingUpdateSequence := by
  intro s₁ s₂ s₃ t₁ t₂ t₃ h₁ h₂ h₃ htx₁ htx₂ htx₃ hp₁ hp₂ hp₃
  obtain ⟨-, -, hf₁, hn₁⟩ := exec_tick_transmitted h₁ htx₁
  obtain ⟨-, -, hf₂, hn₂⟩ := exec_tick_transmitted h₂ htx₂
  obtain ⟨-, -, hf₃, hn₃⟩ := exec_tick_transmitted h₃ htx₃
  have hclearing : t₁.pending = .clearing := by rw [hn₁, hp₁, nextPending]
  have hnone₂ : t₂.pending = .none := by rw [hn₂, hp₂, hclearing, nextPending]
  have hnone₃ : t₃.pending = .none := by rw [hn₃, hp₃, hnone₂, nextPending]
  rw [hf₁, hf₂, hf₃, txFrame_of_pending hp₁, txFrame_of_pending (hp₂.trans hclearing),
    txFrame_of_pending (hp₃.trans hnone₂)]
  exact ⟨rfl, rfl, rfl, hclearing, hnone₂, hnone₃⟩

end Sys2Proof.Machine
end

section
/-! PROOFS. The control requests in common (44_sequencer.md R271), SET_MODE and SET_DISPLAY (R260, R265), RESET and
power-up (70_reset_and_hazards.md R320, R321). -/

namespace Sys2Proof.Machine

/-! ### The shared form of a request -/

theorem exec_setMode (m : Mode) (s : State) :
    exec (.setMode m) s =
      request (fun s =>
        { s with
          dev := { s.dev with mode := m, power := decide (m ≠ .off) }
          lastMode := retainedMode m s.lastMode }) s := rfl

theorem exec_setDisplay (d : Disp) (s : State) :
    exec (.setDisplay d) s =
      request (fun s =>
        { s with
          dev := { s.dev with displayMode := d }
          lastDisplayMode := retainedDisp d s.lastDisplayMode }) s := rfl

/-- A well-formed control request runs the shared rule with a body that writes DeviceState and the two retention
registers alone. -/
theorem exec_eq_request {i : Instr} {s : State} (hi : isRequest i = true) (hwf : Instr.wf s.cfg i = true) :
    ∃ body : State → State, exec i s = request body s ∧
      body s =
        { s with dev := (body s).dev, lastMode := (body s).lastMode, lastDisplayMode := (body s).lastDisplayMode } := by
  cases i with
  | feed b => cases hi
  | poll => cases hi
  | restart => cases hi
  | tick => cases hi
  | reset => cases hi
  | setMode m => exact ⟨_, exec_setMode m s, rfl⟩
  | setTemp v => exact ⟨_, exec_setTemp v s, rfl⟩
  | setFan f => exact ⟨_, exec_setFan f s, rfl⟩
  | setVswing n =>
    have hlt : n.toNat < s.cfg.vswing.length := of_decide_eq_true hwf
    exact ⟨_, execSetVswing_some (swingAt_of_getElem? (List.getElem?_eq_getElem hlt)), rfl⟩
  | setHswing n =>
    have hlt : n.toNat < s.cfg.hswing.length := of_decide_eq_true hwf
    exact ⟨_, execSetHswing_some (swingAt_of_getElem? (List.getElem?_eq_getElem hlt)), rfl⟩
  | setDisplay d => exact ⟨_, exec_setDisplay d s, rfl⟩
  | setUnit u => exact ⟨_, exec_setUnit u s, rfl⟩
  | setPlasma x => exact ⟨_, exec_setPlasma x s, rfl⟩
  | setSleep x => exact ⟨_, exec_setSleep x s, rfl⟩
  | setXfan x => exact ⟨_, exec_setXfan x s, rfl⟩
  | setSave x => exact ⟨_, exec_setSave x s, rfl⟩

theorem isRequest_of_ne {i : Instr} (hfeed : ∀ b, i ≠ .feed b) (hpoll : i ≠ .poll) (hrestart : i ≠ .restart)
    (htick : i ≠ .tick) (hreset : i ≠ .reset) : isRequest i = true := by
  cases i with
  | feed b => exact absurd rfl (hfeed b)
  | poll => exact absurd rfl hpoll
  | restart => exact absurd rfl hrestart
  | tick => exact absurd rfl htick
  | reset => exact absurd rfl hreset
  | _ => rfl

/-- Settles O38: the shared rule of a request, Initializing and Ready. -/
theorem requestsNeedReadyLink : Obligations.RequestsNeedReadyLink := by
  intro i s hwf hfeed hpoll hrestart htick hreset
  obtain ⟨body, hexec, hbody⟩ := exec_eq_request (isRequest_of_ne hfeed hpoll hrestart htick hreset) hwf
  refine ⟨fun hs => hexec.trans (request_initializing hs), fun hs => ?_⟩
  refine ⟨_, hexec.trans (request_ready hs), ?_⟩
  rw [hbody]
  rfl

/-! ### SET_MODE and SET_DISPLAY -/

/-- Settles O39: the shared rule of a request, mode by mode; no mode has a number above 5. -/
theorem setModeRequest : Obligations.SetModeRequest := by
  refine ⟨fun m s hs => ?_, fun m s hs => ?_, rfl, fun c arg harg => ?_⟩
  · rw [exec_setMode, request_ready hs]
    cases m <;> rfl
  · exact (exec_setMode m s).trans (request_initializing hs)
  · exact (decode_setMode_word c arg).trans (withOperand_of_none (Mode.ofPort_eq_none harg) _)

/-- Settles O43: the shared rule of a request, display mode by display mode; none has a number above 4. -/
theorem setDisplayRequest : Obligations.SetDisplayRequest := by
  refine ⟨fun d s hs => ?_, fun d s hs => ?_, rfl, fun c arg harg => ?_⟩
  · rw [exec_setDisplay, request_ready hs]
    cases d <;> rfl
  · exact (exec_setDisplay d s).trans (request_initializing hs)
  · exact (decode_setDisplay_word c arg).trans (withOperand_of_none (Disp.ofPort_eq_none harg) _)

/-! ### RESET and power-up -/

/-- Settles O1: RESET writes every register but the configuration and the host's inputs; its row takes no operand. -/
theorem resetRestoresEveryRegister : Obligations.ResetRestoresEveryRegister :=
  ⟨fun _ => rfl, Memory.read_nil, rfl,
    fun c arg harg => (decode_reset_word c arg).trans (withoutOperand_of_ne harg _)⟩

/-- Settles O2: what RESET leaves as it was is the configuration and the three fields put back by hand. -/
theorem powerUpIsTheStateResetGives : Obligations.PowerUpIsTheStateResetGives := by
  rintro _ s rfl
  exact ⟨_, rfl, rfl⟩

end Sys2Proof.Machine
end

section
/-! PROOFS. One inversion lemma for every operation, and what each claim about a step reads from it: transmissions
(44_sequencer.md R244, 10_state.md R47), the transitions of link (44_sequencer.md R243), the writers of DeviceState
(10_state.md R21), and the operations turned away (60_exceptions.md R296). -/

namespace Sys2Proof.Machine

/-! ### What an operation can do when it answers -/

/-- The ways an operation answers a next state, one constructor each. -/
inductive ExecCase (s : State) : Instr → State → Prop where
  | turnedAway {i : Instr} {st : Status} : isRequest i = true →
      (st = .notReady ∧ s.link = .initializing ∨ st = .illegalOperand) →
      ExecCase s i { s with resp := { status := st }, tx := none }
  | requested {i : Instr} {dev : DeviceState} {lm : OnMode} {ld : OnDisp} : isRequest i = true → s.link = .ready →
      RequestAnswers s (.next
        { s with
          dev := dev, lastMode := lm, lastDisplayMode := ld, pending := .started
          resp := { status := .ok }, tx := none }) →
      ExecCase s i
        { s with
          dev := dev, lastMode := lm, lastDisplayMode := ld, pending := .started
          resp := { status := .ok }, tx := none }
  | busy {b : Byte} : s.rxState = .complete ∨ s.rxState = .restart →
      ExecCase s (.feed b) { s with resp := { status := .busy }, tx := none }
  | fed {b : Byte} {st : ReceiveState} {buf : Memory} {count need : Nat} : FeedCase b s st buf count need →
      ExecCase s (.feed b)
        { s with
          rxState := st, rxBuf := buf, rxCount := count, rxNeed := need, lastByteMs := s.nowMs
          resp := { status := .ok }, tx := none }
  | rejected {r : Status} : s.rxState = .complete → r ≠ .ok → r ≠ .notReady →
      ExecCase s .poll
        { s with
          rxState := .awaitingSync, rxCount := 0, rxNeed := 0
          resp := { status := r, event := .complete }, tx := none }
  | report {body : List Byte} : s.rxState = .complete →
      ExecCase s .poll
        { s with
          rxState := .awaitingSync, rxCount := 0, rxNeed := 0
          dev := (decodeReport body s).dev, lastMode := (decodeReport body s).lastMode
          lastDisplayMode := (decodeReport body s).lastDisplayMode
          link := .ready, lastValidMs := s.nowMs, awaiting := false
          resp :=
            { status := .ok, event := .complete, changed := changedFlag s.dev (decodeReport body s).dev
              warnings := (decodeReport body s).warnings }
          tx := none }
  | restartEvent : s.rxState = .restart →
      ExecCase s .poll
        { s with rxState := .awaitingSync, resp := { status := .framingStall, event := .restart }, tx := none }
  | noEvent : ExecCase s .poll { s with resp := { status := .ok }, tx := none }
  | restarted :
      ExecCase s .restart
        { s with
          rxState := .awaitingSync, rxCount := 0, rxNeed := 0, resp := { status := .ok }, tx := none }
  | dropped : linkExpired s = true →
      ExecCase s .tick
        { stallCheck s with
          link := .initializing, pending := .none, awaiting := false
          resp := { status := .ok, linkDropped := true }, tx := none }
  | transmitted : linkExpired s = false → s.link = .ready →
      ExecCase s .tick
        { stallCheck s with
          pending := nextPending s.pending, awaiting := true, lastTxMs := s.nowMs
          resp := { status := .ok, txSent := true }, tx := some (txFrame s) }
  | held : linkExpired s = false → ExecCase s .tick { stallCheck s with resp := { status := .ok }, tx := none }
  | reset : ExecCase s .reset (respond { status := .ok } (resetRegisters s))

/-- VERIFY's codes are none of the statuses of a request. -/
theorem verify_ne_notReady (c : Config) (f : List Byte) : verify c f ≠ .notReady := fun h => by
  have hmem := verify_mem c f
  rw [h] at hmem
  revert hmem
  decide

/-- Every operation that answers, answers in one of these ways. -/
theorem exec_case {i : Instr} {s t : State} (h : exec i s = .next t) : ExecCase s i t := by
  cases hi : isRequest i with
  | true =>
    obtain ⟨st, hst, he⟩ | ⟨hready, dev, lm, ld, he, -⟩ := execRequest_answers (s := s) hi
    · cases h.symm.trans he
      exact .turnedAway hi hst
    · cases h.symm.trans he
      exact .requested hi hready (he ▸ execRequest_answers hi)
  | false =>
    cases i <;> simp only [isRequest, Bool.true_eq_false] at hi
    case feed b =>
      obtain ⟨hfull, rfl⟩ | ⟨st, buf, count, need, hcase, rfl⟩ := execFeed_cases h
      · exact .busy hfull
      · exact .fed hcase
    case poll =>
      obtain ⟨hs, -, r, hr, hver, rfl⟩ | ⟨hs, -, -, d, rfl, rfl⟩ | ⟨hs, rfl⟩ | ⟨-, rfl⟩ := execPoll_cases h
      · exact .rejected hs hr (hver ▸ verify_ne_notReady _ _)
      · exact .report hs
      · exact .restartEvent hs
      · exact .noEvent
    case restart =>
      cases h
      exact .restarted
    case tick =>
      have h : execTick s = .next t := h
      obtain ⟨hexp, htick⟩ | ⟨hexp, hready, -, htick⟩ | ⟨hexp, -, htick⟩ := execTick_cases s
      · cases h.symm.trans htick
        exact .dropped hexp
      · cases h.symm.trans htick
        exact .transmitted hexp hready
      · cases h.symm.trans htick
        exact .held hexp
    case reset =>
      cases h
      exact .reset

/-! ### The step over a waiting command -/

/-- `s` with its oldest command taken: the time sampled, and `age` milliseconds since the last TICK. -/
def taken (s : State) (rest : List Command) (now : Time) (age : Option Nat) : State :=
  { s with port := rest, nowMs := now, tickAgeMs := age }

/-- Which word the command carried, by what a decoded operation is: encode and decode are inverse. -/
theorem word_eq_encode_iff {c : Config} {w : Word} {i j : Instr} (hi : decode c w = .ok i)
    (hj : Instr.wf c j = true) : w = encode j ↔ i = j := by
  obtain ⟨henc, -⟩ := encodeOfDecodeIsIdentity c w i hi
  refine ⟨fun h => ?_, fun h => h ▸ henc.symm⟩
  have hdec := decodeOfEncodeIsIdentity c j hj
  rw [← h, hi] at hdec
  exact Except.ok.inj hdec

/-- A refused word is the word of no operation. -/
theorem word_ne_encode {c : Config} {w : Word} {e : WordError} {j : Instr} (he : decode c w = .error e)
    (hj : Instr.wf c j = true) : w ≠ encode j := fun h => by
  rw [h, decodeOfEncodeIsIdentity c j hj] at he
  cases he

/-- The step on a waiting command, as a whole. -/
theorem step_of_command {s : State} {cmd : Command} {rest : List Command} (hc : configValid s.cfg = true)
    (hp : s.port = cmd :: rest) (ha : ageAt s cmd.nowMs < tickLimit) :
    step s =
      match decode s.cfg cmd.word with
      | .ok i => exec i (taken s rest cmd.nowMs (some (ageAfter (.ok i) (ageAt s cmd.nowMs))))
      | .error e => refuseWord e (taken s rest cmd.nowMs (some (ageAfter (.error e) (ageAt s cmd.nowMs)))) := by
  have hfetch := fetch_eq hc hp ha
  cases hdec : decode s.cfg cmd.word with
  | ok i =>
    rw [hdec] at hfetch
    exact step_of_operation hfetch rfl
  | error e =>
    rw [hdec] at hfetch
    exact step_of_refusedWord hfetch rfl

theorem ageAfter_ok (i : Instr) (age : Nat) : ageAfter (.ok i) age = if i = .tick then 0 else age := by
  cases i <;> rfl

/-- Settles O46: the fetch answers, and its state is the one the statement writes out. -/
theorem stepRunsDecodedOperation : Obligations.StepRunsDecodedOperation := by
  intro s cmd rest i hc hp ha hdec
  rw [step_of_command hc hp (ageAt_lt ha), hdec]
  dsimp only
  rw [ageAfter_ok]
  rfl

/-- Settles O48: the three stops of the fetch are stops of the step. -/
theorem stopsOutsideTheHostTable : Obligations.StopsOutsideTheHostTable := by
  refine ⟨fun s hc => step_of_refused (fetch_badConfiguration hc), fun s cmd rest a hc hp ha hlate => ?_,
    fun s hc hp => step_of_fault (fetch_noCommand hc hp)⟩
  have hage : ageAt s cmd.nowMs = a + (cmd.nowMs - s.nowMs).toNat := by rw [ageAt, ha]
  refine step_of_refused (fetch_hostTimeDuty hc hp ?_)
  rw [hage, tickLimit]
  exact Nat.not_lt.mpr hlate

/-- Settles O53: each selection names its field. -/
theorem readPortShowsTheFields : Obligations.ReadPortShowsTheFields :=
  fun _ => ⟨rfl, rfl, rfl, rfl, rfl, rfl, rfl, rfl, rfl, rfl, rfl, rfl, rfl, rfl⟩

/-! ### Operations turned away -/

theorem exec_feed_busy {b : Byte} {s : State} (hs : s.rxState = .complete ∨ s.rxState = .restart) :
    exec (.feed b) s = .next { s with resp := { status := .busy }, tx := none } := by
  show execFeed b s = turnAway .busy s
  rcases hs with hs | hs <;> rw [execFeed, hs]

/-- NOT_READY is the answer of a request while Initializing, and of nothing else. -/
theorem ExecCase.notReady {s t : State} {i : Instr} (h : ExecCase s i t) (hst : t.resp.status = .notReady) :
    s.link = .initializing ∧ t = { s with resp := { status := .notReady }, tx := none } := by
  cases h with
  | turnedAway _ hcause =>
    obtain ⟨rfl, hinit⟩ | rfl := hcause
    · exact ⟨hinit, rfl⟩
    · cases hst
  | rejected _ _ hr => exact absurd hst hr
  | _ => cases hst

/-- Settles O47: a refused word changes the outputs of the state it was taken from, and so does a BUSY FEED; NOT_READY
is `ExecCase.notReady`. -/
theorem turnedAwayOperationsChangeNothing : Obligations.TurnedAwayOperationsChangeNothing := by
  refine ⟨fun s cmd rest e hc hp ha hdec => ⟨some (ageAfter (.error e) (ageAt s cmd.nowMs)), ?_⟩,
    fun b s => exec_feed_busy, fun i s t h hst => (exec_case h).notReady hst⟩
  rw [step_of_command hc hp (ageAt_lt ha), hdec]
  cases e <;> rfl

/-! ### Transmissions -/

/-- The outputs of an operation: a frame of 50 bytes with tx_sent, from a TICK that found and kept the link Ready; or
no frame. -/
theorem ExecCase.outputs {s t : State} {i : Instr} (h : ExecCase s i t) :
    (t.tx = none ∧ t.resp.txSent = false) ∨
      (i = .tick ∧ s.link = .ready ∧ t.link = .ready ∧ t.resp.txSent = true ∧ ∃ f, t.tx = some f ∧ f.length = 50) := by
  cases h with
  | transmitted _ hready =>
    refine .inr ⟨rfl, hready, ?_, rfl, _, rfl, length_txFrame s⟩
    rw [stallCheck_eq]
    exact hready
  | _ => exact .inl ⟨rfl, rfl⟩

/-- The outputs of a step, from those of its operation; a refused word has none. -/
theorem step_outputs {s t : State} (h : step s = .next t) :
    (t.tx = none ∧ t.resp.txSent = false) ∨
      (s.link = .ready ∧ t.link = .ready ∧ t.resp.txSent = true ∧ (∃ f, t.tx = some f ∧ f.length = 50) ∧
        ∃ cmd rest, s.port = cmd :: rest ∧ cmd.word = 0x0400) := by
  obtain ⟨cmd, rest, age, hport, -, ⟨i, hdec, hexec⟩ | ⟨e, -, rfl⟩⟩ := step_cases h
  · obtain hnone | ⟨hi, hready, hkept, hsent, hframe⟩ := (exec_case hexec).outputs
    · exact .inl hnone
    · exact .inr ⟨hready, hkept, hsent, hframe, cmd, rest, hport, (word_eq_encode_iff hdec (j := .tick) rfl).mpr hi⟩
  · exact .inl ⟨rfl, rfl⟩

/-- Settles O35: the one way of a step that leaves a frame. -/
theorem onlyAReadyTickTransmits : Obligations.OnlyAReadyTickTransmits := by
  intro s t h htx
  obtain ⟨hnone, -⟩ | ⟨hready, hkept, -, -, hword⟩ := step_outputs h
  · exact absurd hnone htx
  · exact ⟨hready, hkept, hword⟩

/-- Settles O36: a step leaves a frame of 50 bytes with tx_sent, or neither. -/
theorem strobeEqualsTxSent : Obligations.StrobeEqualsTxSent := by
  intro s t h
  obtain ⟨hnone, hsent⟩ | ⟨-, -, hsent, ⟨f, hf, hlen⟩, -⟩ := step_outputs h
  · rw [hnone, hsent]
    exact ⟨rfl, nofun⟩
  · rw [hf, hsent]
    exact ⟨rfl, fun g hg => Option.some.inj hg ▸ hlen⟩

/-! ### The transitions of link -/

/-- What an operation does to link, in the terms of 44_sequencer.md R243. -/
structure LinkTable (s : State) (i : Instr) (t : State) : Prop where
  report : t.resp.event = .complete → t.resp.status = .ok → i = .poll ∧ t.link = .ready ∧ t.lastValidMs = s.nowMs
  dropped : i = .tick → linkExpired s = true → t.link = .initializing
  reset : i = .reset → t.link = .initializing
  changed : t.link ≠ s.link →
    (t.resp.event = .complete ∧ t.resp.status = .ok) ∨ (i = .tick ∧ linkExpired s = true) ∨ i = .reset

theorem stallCheck_link (s : State) : (stallCheck s).link = s.link := by rw [stallCheck_eq]

theorem ne_of_isRequest {i : Instr} (hi : isRequest i = true) : i ≠ .tick ∧ i ≠ .reset := by
  constructor <;> rintro rfl <;> cases hi

theorem ExecCase.linkTable {s t : State} {i : Instr} (h : ExecCase s i t) : LinkTable s i t := by
  cases h with
  | turnedAway hi | requested hi =>
    obtain ⟨htick, hreset⟩ := ne_of_isRequest hi
    exact ⟨nofun, fun h => absurd h htick, fun h => absurd h hreset, fun h => absurd rfl h⟩
  | rejected _ hr => exact ⟨fun _ h => absurd h hr, nofun, nofun, fun h => absurd rfl h⟩
  | report => exact ⟨fun _ _ => ⟨rfl, rfl, rfl⟩, nofun, nofun, fun _ => .inl ⟨rfl, rfl⟩⟩
  | dropped hexp => exact ⟨nofun, fun _ _ => rfl, nofun, fun _ => .inr (.inl ⟨rfl, hexp⟩)⟩
  | transmitted hexp | held hexp =>
    exact ⟨nofun, fun _ h => by simp [hexp] at h, nofun, fun h => absurd (stallCheck_link s) h⟩
  | reset => exact ⟨nofun, nofun, fun _ => rfl, fun _ => .inr (.inr rfl)⟩
  | busy | fed | restartEvent | noEvent | restarted => exact ⟨nofun, nofun, nofun, fun h => absurd rfl h⟩

/-- Settles O37: the table of the operation the word decodes to; a refused word is none of the three words and keeps
link. -/
theorem linkTransitions : Obligations.LinkTransitions := by
  intro s t cmd rest hstep hport
  obtain ⟨cmd', rest', age, hport', -, hrun⟩ := step_cases hstep
  cases hport.symm.trans hport'
  have hexpired : linkExpired (taken s rest cmd.nowMs age) = true ↔
      s.link = .ready ∧ 1000 < (cmd.nowMs - s.lastValidMs).toNat := linkExpired_iff
  obtain ⟨i, hdec, hexec⟩ | ⟨e, hdec, rfl⟩ := hrun
  · obtain ⟨hreport, hdropped, hreset, hchanged⟩ := (exec_case hexec).linkTable
    have hpoll := word_eq_encode_iff hdec (j := .poll) rfl
    have htick := word_eq_encode_iff hdec (j := .tick) rfl
    have hrst := word_eq_encode_iff hdec (j := .reset) rfl
    refine ⟨fun hev hok => ?_, fun hw hready hlate => hdropped (htick.mp hw) (hexpired.mpr ⟨hready, hlate⟩),
      fun hw => hreset (hrst.mp hw), fun hne => ?_⟩
    · obtain ⟨hi, hlink, hvalid⟩ := hreport hev hok
      exact ⟨hpoll.mpr hi, hlink, hvalid⟩
    · obtain hrep | ⟨hi, hexp⟩ | hi := hchanged hne
      · exact .inl hrep
      · exact .inr (.inl ⟨htick.mpr hi, hexpired.mp hexp⟩)
      · exact .inr (.inr (hrst.mpr hi))
  · exact ⟨nofun, fun hw => absurd hw (word_ne_encode hdec (j := .tick) rfl),
      fun hw => absurd hw (word_ne_encode hdec (j := .reset) rfl), fun hne => absurd rfl hne⟩

/-! ### The writers of DeviceState -/

theorem stallCheck_dev (s : State) : (stallCheck s).dev = s.dev := by rw [stallCheck_eq]

theorem ExecCase.dev_writers {s t : State} {i : Instr} (h : ExecCase s i t) (hne : t.dev ≠ s.dev) :
    (i = .poll ∧ t.resp.event = .complete ∧ t.resp.status = .ok) ∨ i = .reset ∨
      (isRequest i = true ∧ s.link = .ready ∧ t.pending = .started) := by
  cases h with
  | requested hi hready => exact .inr (.inr ⟨hi, hready, rfl⟩)
  | report => exact .inl ⟨rfl, rfl, rfl⟩
  | reset => exact .inr (.inl rfl)
  | dropped | transmitted | held => exact absurd (stallCheck_dev s) hne
  | turnedAway | busy | fed | rejected | restartEvent | noEvent | restarted => exact absurd rfl hne

/-- The control requests have the op bytes 0x10 to 0x1A (30_encoding.md R84). -/
theorem opByte_of_isRequest {i : Instr} (hi : isRequest i = true) :
    0x10 ≤ (encode i).toNat / 256 ∧ (encode i).toNat / 256 ≤ 0x1A := by
  cases i with
  | feed b => cases hi
  | poll => cases hi
  | restart => cases hi
  | tick => cases hi
  | reset => cases hi
  | setMode m => rw [(Laws.EncodedWord.setMode m).1]; decide
  | setTemp v => rw [(Laws.EncodedWord.setTemp v).1]; decide
  | setFan f => rw [(Laws.EncodedWord.setFan f).1]; decide
  | setVswing n => rw [(Laws.EncodedWord.setVswing n).1]; decide
  | setHswing n => rw [(Laws.EncodedWord.setHswing n).1]; decide
  | setDisplay d => rw [(Laws.EncodedWord.setDisplay d).1]; decide
  | setUnit u => rw [(Laws.EncodedWord.setUnit u).1]; decide
  | setPlasma x => rw [(Laws.EncodedWord.setPlasma x).1]; decide
  | setSleep x => rw [(Laws.EncodedWord.setSleep x).1]; decide
  | setXfan x => rw [(Laws.EncodedWord.setXfan x).1]; decide
  | setSave x => rw [(Laws.EncodedWord.setSave x).1]; decide

/-- Settles O56: the three operations that write DeviceState, by their words. -/
theorem onlyReportsRequestsAndResetWriteDeviceState :
    Obligations.OnlyReportsRequestsAndResetWriteDeviceState := by
  intro s t cmd rest hstep hport hne
  obtain ⟨cmd', rest', age, hport', -, hrun⟩ := step_cases hstep
  cases hport.symm.trans hport'
  obtain ⟨i, hdec, hexec⟩ | ⟨e, -, rfl⟩ := hrun
  · obtain ⟨hi, hreport⟩ | hi | ⟨hi, hready, hpending⟩ := (exec_case hexec).dev_writers hne
    · exact .inl ⟨(word_eq_encode_iff hdec (j := .poll) rfl).mpr hi, hreport⟩
    · exact .inr (.inl ((word_eq_encode_iff hdec (j := .reset) rfl).mpr hi))
    · obtain ⟨henc, -⟩ := encodeOfDecodeIsIdentity s.cfg cmd.word i hdec
      obtain ⟨hlo, hhi⟩ := opByte_of_isRequest hi
      rw [henc] at hlo hhi
      exact .inr (.inr ⟨hlo, hhi, hready, hpending⟩)
  · exact absurd rfl hne

end Sys2Proof.Machine
end

section
/-! PROOFS. The invariants (10_state.md R51) in three independent parts, each kept by every operation; no command
is fatal and every dutiful run completes (60_exceptions.md R297, 70_reset_and_hazards.md R331, R332). -/

namespace Sys2Proof.Machine

/-! ### The invariants in three parts -/

/-- The part of the invariants about the receiver registers (10_state.md R34 to R37, R51). -/
structure ReceiverOk (st : ReceiveState) (buf : Memory) (count need : Nat) : Prop where
  wf : Memory.wf buf = true
  awaitingSync : st = .awaitingSync → count = 0 ∨ (count = 1 ∧ Memory.read buf 0 = 0x7E)
  receivingSync : st = .receiving → Memory.read buf 0 = 0x7E ∧ Memory.read buf 1 = 0x7E
  receivingCount : st = .receiving → count = 2 ∨ (3 ≤ count ∧ count < need)
  complete : st = .complete → count = need ∧ 3 ≤ need
  restart : st = .restart → count = 0
  needCap : need ≤ 258

/-- The part of the invariants about DeviceState (10_state.md R25, R27, R28, R51). -/
structure DeviceOk (c : Config) (d : DeviceState) : Prop where
  target : 16 ≤ d.targetTemperature ∧ d.targetTemperature ≤ 30
  current : ∀ u, d.currentTemperature = some u → u ≤ 100
  external : c.extSensor = true → d.currentTemperature = none
  vertical : d.verticalSwing ∈ c.vswing.map (fun e => e.pos)
  horizontal : d.horizontalSwing ∈ c.hswing.map (fun e => e.pos)
  modePower : d.mode ≠ .off → d.power = true

/-- The part of the invariants about the sequencer registers (10_state.md R51). -/
structure SequencerOk (link : LinkState) (pending : PendingUpdate) (awaiting : Bool) : Prop where
  pending : link = .initializing → pending = .none
  awaiting : awaiting = true → link = .ready

theorem invariants_iff {s : State} :
    Invariants s ↔
      configValid s.cfg = true ∧ ReceiverOk s.rxState s.rxBuf s.rxCount s.rxNeed ∧ DeviceOk s.cfg s.dev ∧
        SequencerOk s.link s.pending s.awaiting := by
  constructor
  · rintro ⟨hcfg, hwf, hsync, hrecv, hcount, hcomplete, hrestart, hneed, htarget, hcur, hext, hvert, hhor, hpower,
      hpending, hawait⟩
    exact ⟨hcfg, ⟨hwf, hsync, hrecv, hcount, hcomplete, hrestart, hneed⟩, ⟨htarget, hcur, hext, hvert, hhor, hpower⟩,
      ⟨hpending, hawait⟩⟩
  · rintro ⟨hcfg, ⟨hwf, hsync, hrecv, hcount, hcomplete, hrestart, hneed⟩, ⟨htarget, hcur, hext, hvert, hhor, hpower⟩,
      ⟨hpending, hawait⟩⟩
    exact ⟨hcfg, hwf, hsync, hrecv, hcount, hcomplete, hrestart, hneed, htarget, hcur, hext, hvert, hhor, hpower,
      hpending, hawait⟩

/-! ### The receiver -/

/-- An emptied receiver, in AwaitingSync or in Restart. -/
theorem ReceiverOk.empty {buf : Memory} {st : ReceiveState} (hwf : Memory.wf buf = true)
    (hst : st = .awaitingSync ∨ st = .restart) : ReceiverOk st buf 0 0 := by
  rcases hst with rfl | rfl <;> exact ⟨hwf, fun _ => .inl rfl, nofun, nofun, nofun, fun _ => rfl, by decide⟩

/-- POLL that reports Restart: the receiver is empty already. -/
theorem ReceiverOk.afterRestart {buf : Memory} {count need : Nat} (h : ReceiverOk .restart buf count need) :
    ReceiverOk .awaitingSync buf count need :=
  ⟨h.wf, fun _ => .inl (h.restart rfl), nofun, nofun, nofun, nofun, h.needCap⟩

/-- A byte stored in Receiving: the frame is complete at rx_need bytes, and short of it still being received. -/
theorem ReceiverOk.stateAtCount {buf : Memory} {count need : Nat} (hwf : Memory.wf buf = true)
    (hsync : Memory.read buf 0 = 0x7E ∧ Memory.read buf 1 = 0x7E) (hlo : 3 ≤ count) (hhi : count ≤ need)
    (hcap : need ≤ 258) : ReceiverOk (stateAtCount count need) buf count need := by
  unfold Machine.stateAtCount
  split_ifs with hfull
  · exact ⟨hwf, nofun, nofun, nofun, fun _ => ⟨hfull, by omega⟩, nofun, hcap⟩
  · exact ⟨hwf, nofun, fun _ => hsync, fun _ => .inr ⟨hlo, by omega⟩, nofun, nofun, hcap⟩

/-- FEED keeps the receiver's part, in each of its six ways. -/
theorem FeedCase.receiverOk {b : Byte} {s : State} {st : ReceiveState} {buf : Memory} {count need : Nat}
    (hcase : FeedCase b s st buf count need) (h : ReceiverOk s.rxState s.rxBuf s.rxCount s.rxNeed) :
    ReceiverOk st buf count need := by
  obtain ⟨hwf, -⟩ := hcase.buffer h.wf
  cases hcase with
  | firstSync hs hcount hb =>
    have h0 : Memory.read (Memory.write s.rxBuf 0 b) 0 = 0x7E := by
      rw [Memory.read_write h.wf, if_pos rfl]
      exact hb
    exact ⟨hwf, fun _ => .inr ⟨rfl, h0⟩, nofun, nofun, nofun, nofun, h.needCap⟩
  | noise | brokenPair => exact ⟨hwf, fun _ => .inl rfl, nofun, nofun, nofun, nofun, h.needCap⟩
  | secondSync hs hcount hb =>
    obtain hzero | ⟨-, hfirst⟩ := h.awaitingSync hs
    · exact absurd hzero hcount
    have hsync : Memory.read (Memory.write s.rxBuf 1 b) 0 = 0x7E ∧ Memory.read (Memory.write s.rxBuf 1 b) 1 = 0x7E := by
      rw [Memory.read_write h.wf, Memory.read_write h.wf, if_neg (by decide), if_pos rfl]
      exact ⟨hfirst, hb⟩
    exact ⟨hwf, nofun, fun _ => hsync, fun _ => .inl rfl, nofun, nofun, h.needCap⟩
  | length hs hcount =>
    obtain ⟨hlo, hhi⟩ := frameLen_bounds s.cfg b
    refine .stateAtCount hwf ?_ le_rfl hlo hhi
    rw [Memory.read_write h.wf, Memory.read_write h.wf, if_neg (by decide), if_neg (by decide)]
    exact h.receivingSync hs
  | data hs hcount hcap =>
    obtain htwo | ⟨hlo, hhi⟩ := h.receivingCount hs
    · exact absurd htwo hcount
    refine .stateAtCount hwf ?_ (by omega) (by omega) h.needCap
    rw [Memory.read_write h.wf, Memory.read_write h.wf, if_neg (by omega), if_neg (by omega)]
    exact h.receivingSync hs

/-! ### DeviceState -/

theorem DeviceOk.reset {c : Config} (hv : configValid c = true) : DeviceOk c .reset := by
  obtain ⟨-, -, -, -, hvset, hhset, -⟩ := configValid_iff.mp hv
  exact ⟨by decide, nofun, fun _ => rfl, off_mem_swingSet hvset, off_mem_swingSet hhset, fun h => absurd rfl h⟩

/-- The position DECODE gives a swing is in its set, Off included. -/
theorem swingOfCode_getD_mem {w v : Nat} {set : List SwingEntry} (hv : swingSetOk w set = true) :
    (swingOfCode set v).getD .off ∈ set.map (fun e => e.pos) := by
  cases hp : swingOfCode set v with
  | none => exact off_mem_swingSet hv
  | some p => exact swingOfCode_mem hp

/-- DECODE gives a mode other than Off only with the power on (42_decoder.md R172 to R174). -/
theorem decodeFrom_mode_power {c : Config} {body : List Byte} {d : Decoded}
    (h : (decodeFrom c body d).dev.mode ≠ .off) : (decodeFrom c body d).dev.power = true := by
  rw [decodeFrom_power]
  by_contra hoff
  rw [decodeFrom_mode] at h
  cases hm : modeOfCode c (field c body .mode) with
  | none => simp [hm] at h
  | some m => simp [hm, hoff] at h

/-- DECODE keeps the ranges of DeviceState, whatever the body (42_decoder.md R175 to R181). -/
theorem DeviceOk.decodeFrom {c : Config} {d : Decoded} (hv : configValid c = true) (h : DeviceOk c d.dev)
    (body : List Byte) : DeviceOk c (decodeFrom c body d).dev := by
  obtain ⟨-, -, -, -, hvset, hhset, -⟩ := configValid_iff.mp hv
  refine ⟨?_, fun u hu => ?_, fun hext => ?_, ?_, ?_, decodeFrom_mode_power⟩
  · rw [decodeFrom_targetTemperature]
    split_ifs
    · exact h.target
    · omega
  · rw [decodeFrom_currentTemperature] at hu
    split_ifs at hu with hkeep
    · exact h.current u hu
    · cases hu
      exact Int.not_lt.mp fun hlt => hkeep (.inr hlt)
  · rw [decodeFrom_currentTemperature, if_pos (.inl hext)]
    exact h.external hext
  · rw [decodeFrom_verticalSwing]
    exact swingOfCode_getD_mem hvset
  · rw [decodeFrom_horizontalSwing]
    exact swingOfCode_getD_mem hhset

/-- An accepted request keeps the ranges of DeviceState (44_sequencer.md R260 to R270). -/
theorem DeviceOk.request {s t : State} (h : DeviceOk s.cfg s.dev) (hready : s.link = .ready)
    (hreq : RequestAnswers s (.next t)) (hok : t.resp.status = .ok) : DeviceOk s.cfg t.dev := by
  obtain ⟨st, hst, he⟩ | ⟨-, dev, lm, ld, he, hcur, htarget, hpower, hvert, hhor⟩ := hreq
  · cases he
    obtain ⟨-, hinit⟩ | rfl := hst
    · cases hready.symm.trans hinit
    · cases hok
  · cases he
    refine ⟨htarget h.target, fun u hu => ?_, fun hext => ?_, hvert h.vertical, hhor h.horizontal, hpower h.modePower⟩
    · exact h.current u (hcur ▸ hu)
    · exact hcur.trans (h.external hext)

/-! ### Every step keeps the invariants -/

/-- While Ready, nothing is asked of pending and awaiting. -/
theorem SequencerOk.ofReady {link : LinkState} (hready : link = .ready) (p : PendingUpdate) (a : Bool) :
    SequencerOk link p a :=
  ⟨fun hinit => (nomatch hready.symm.trans hinit), fun _ => hready⟩

theorem Invariants.stallCheck {s : State} (h : Invariants s) : Invariants (stallCheck s) := by
  by_cases hst : stalled s = true
  · obtain ⟨hcfg, hrx, hdev, hseq⟩ := invariants_iff.mp h
    rw [stallCheck_of_stalled hst]
    exact invariants_iff.mpr ⟨hcfg, .empty hrx.wf (.inr rfl), hdev, hseq⟩
  · rw [stallCheck_of_not_stalled hst]
    exact h

/-- Every operation keeps the invariants: the parts it does not write are carried over, the others by their lemmas. -/
theorem ExecCase.invariants {s t : State} {i : Instr} (hcase : ExecCase s i t) (h : Invariants s) : Invariants t := by
  obtain ⟨hcfg, hrx, hdev, hseq⟩ := invariants_iff.mp h
  obtain ⟨hcfg', hrx', hdev', hseq'⟩ := invariants_iff.mp h.stallCheck
  rw [invariants_iff]
  cases hcase with
  | turnedAway | busy | noEvent => exact ⟨hcfg, hrx, hdev, hseq⟩
  | requested _ hready hreq => exact ⟨hcfg, hrx, hdev.request hready hreq rfl, .ofReady hready _ _⟩
  | fed hfeed => exact ⟨hcfg, hfeed.receiverOk hrx, hdev, hseq⟩
  | rejected | restarted => exact ⟨hcfg, .empty hrx.wf (.inl rfl), hdev, hseq⟩
  | report => exact ⟨hcfg, .empty hrx.wf (.inl rfl), hdev.decodeFrom hcfg _, .ofReady rfl _ _⟩
  | restartEvent hs => exact ⟨hcfg, ReceiverOk.afterRestart (hs ▸ hrx), hdev, hseq⟩
  | dropped => exact ⟨hcfg', hrx', hdev', fun _ => rfl, nofun⟩
  | transmitted _ hready => exact ⟨hcfg', hrx', hdev', .ofReady ((stallCheck_link s).trans hready) _ _⟩
  | held => exact ⟨hcfg', hrx', hdev', hseq'⟩
  | reset => exact ⟨hcfg, .empty Memory.wf_nil (.inl rfl), .reset hcfg, fun _ => rfl, nofun⟩

/-- The invariants say nothing of the port, the time and the outputs. -/
theorem Invariants.taken {s : State} (h : Invariants s) (rest : List Command) (now : Time) (age : Option Nat) :
    Invariants (taken s rest now age) := by
  have hparts := invariants_iff.mp h
  exact invariants_iff.mpr hparts

theorem Invariants.respond {s : State} (h : Invariants s) (r : Response) : Invariants (respond r s) := by
  have hparts := invariants_iff.mp h
  exact invariants_iff.mpr hparts

/-- Settles O57: an emptied receiver, the reset DeviceState, and a sequencer with nothing pending. -/
theorem invariantHoldsAtPowerUp : Obligations.InvariantHoldsAtPowerUp := fun _ hv =>
  invariants_iff.mpr ⟨hv, .empty Memory.wf_nil (.inl rfl), .reset hv, fun _ => rfl, nofun⟩

/-- Settles O58: taking the command and refusing a word write nothing the invariants speak of, and an operation keeps
them in each of its ways. -/
theorem everyStepKeepsTheInvariant : Obligations.EveryStepKeepsTheInvariant := by
  intro s t h hstep
  obtain ⟨cmd, rest, age, -, -, ⟨i, -, hexec⟩ | ⟨e, -, rfl⟩⟩ := step_cases hstep
  · exact (exec_case hexec).invariants (h.taken rest cmd.nowMs age)
  · exact (h.taken rest cmd.nowMs age).respond _

/-! ### Every operation answers -/

theorem exec_feed_answers {s : State} (h : Invariants s) (b : Byte) : ∃ t, exec (.feed b) s = .next t := by
  cases hs : s.rxState with
  | complete => exact ⟨_, exec_feed_busy (.inl hs)⟩
  | restart => exact ⟨_, exec_feed_busy (.inr hs)⟩
  | awaitingSync =>
    rw [exec_feed_awaitingSync hs, feedAwaiting]
    split_ifs <;> exact ⟨_, rfl⟩
  | receiving =>
    have hneed := h.needCap
    have hcap : s.rxCount < 258 := by
      obtain htwo | ⟨-, hlt⟩ := h.receivingCount hs <;> omega
    exact ⟨_, exec_feed_receiving hs hcap⟩

theorem exec_poll_answers {s : State} (h : Invariants s) : ∃ t, exec .poll s = .next t := by
  cases hs : s.rxState with
  | complete =>
    by_cases hver : verify s.cfg (Memory.readRange s.rxBuf s.rxNeed) = .ok
    · exact ⟨_, exec_poll_accepted hs h.needCap hver⟩
    · exact ⟨_, exec_poll_rejected hs h.needCap rfl hver⟩
  | restart => exact ⟨_, exec_poll_restart hs⟩
  | awaitingSync => exact ⟨_, exec_poll_noEvent (.inl hs)⟩
  | receiving => exact ⟨_, exec_poll_noEvent (.inr hs)⟩

/-- From a state that meets the invariants every operation answers: FEED and POLL stay inside the receive buffer. -/
theorem exec_answers {s : State} (h : Invariants s) (i : Instr) : ∃ t, exec i s = .next t := by
  cases hi : isRequest i with
  | true =>
    obtain ⟨st, -, he⟩ | ⟨-, dev, lm, ld, he, -⟩ := execRequest_answers (s := s) hi
    · exact ⟨_, he⟩
    · exact ⟨_, he⟩
  | false =>
    cases i <;> simp only [isRequest, Bool.true_eq_false] at hi
    case feed b => exact exec_feed_answers h b
    case poll => exact exec_poll_answers h
    case restart => exact ⟨_, rfl⟩
    case tick =>
      obtain ⟨t, htick, -⟩ := exec_tick_answers s
      exact ⟨t, htick⟩
    case reset => exact ⟨_, rfl⟩

/-- The age after a command: a TICK, which is the word 0x0400, starts it anew. -/
theorem ageAfter_decode (c : Config) (w : Word) (age : Nat) :
    ageAfter (decode c w) age = if w = 0x0400 then 0 else age := by
  cases hdec : decode c w with
  | ok i => rw [ageAfter_ok, if_congr (word_eq_encode_iff hdec (j := .tick) rfl).symm rfl rfl]; rfl
  | error e => exact (if_neg (word_ne_encode hdec (j := .tick) rfl)).symm

/-- Within the time duties the step on a waiting command answers, leaves the rest of the port, and counts the time since
the last TICK. -/
theorem step_answers {s : State} {cmd : Command} {rest : List Command} (h : Invariants s) (hp : s.port = cmd :: rest)
    (ha : ageAt s cmd.nowMs < tickLimit) :
    ∃ t, step s = .next t ∧ t.port = rest ∧ t.nowMs = cmd.nowMs ∧
      t.tickAgeMs = some (if cmd.word = 0x0400 then 0 else ageAt s cmd.nowMs) := by
  rw [step_of_command h.cfgValid hp ha, ← ageAfter_decode s.cfg cmd.word (ageAt s cmd.nowMs)]
  cases decode s.cfg cmd.word with
  | ok i =>
    obtain ⟨t, hexec⟩ := exec_answers (h.taken rest cmd.nowMs (some (ageAfter (.ok i) (ageAt s cmd.nowMs)))) i
    obtain ⟨-, hport, hnow, hage⟩ := exec_frame hexec
    exact ⟨t, hexec, hport, hnow, hage⟩
  | error e => exact ⟨_, rfl, rfl, rfl, rfl⟩

/-- Settles O59: under the invariants no operation faults, and the host's duties rule the fetch's refusals out. -/
theorem noCommandIsFatal : Obligations.NoCommandIsFatal := by
  intro s cmd rest h hp ha
  obtain ⟨t, hstep, hport, -⟩ := step_answers h hp (ageAt_lt ha)
  exact ⟨t, hstep, hport⟩

/-! ### A whole run -/

/-- The host's duties over the waiting commands, read off the state: those of the oldest one, then those of the rest
from the age it leaves. -/
theorem timeDutiesKept_cons {s : State} {cmd : Command} {rest : List Command} :
    timeDutiesKept s.tickAgeMs s.nowMs (cmd :: rest) = true ↔
      ageAt s cmd.nowMs < tickLimit ∧
        timeDutiesKept (some (if cmd.word = 0x0400 then 0 else ageAt s cmd.nowMs)) cmd.nowMs rest = true := by
  rw [timeDutiesKept.eq_def, Bool.and_eq_true, decide_eq_true_eq]
  rfl

theorem runReports_of_next {n : Nat} {s t : State} (h : step s = .next t) :
    runReports (n + 1) s = ((t.resp, t.tx) :: (runReports n t).1, (runReports n t).2) := by
  rw [runReports, h]

/-- A dutiful run over the commands `cmds` takes all of them. -/
theorem runReports_completes (cmds : List Command) (s : State) (hp : s.port = cmds) (h : Invariants s)
    (hduty : timeDutiesKept s.tickAgeMs s.nowMs cmds = true) :
    ∃ t, (runReports cmds.length s).2 = .next t ∧ (runReports cmds.length s).1.length = cmds.length ∧ t.port = [] ∧
      Invariants t := by
  induction cmds generalizing s with
  | nil => exact ⟨s, rfl, rfl, hp, h⟩
  | cons cmd rest ih =>
    obtain ⟨hage, hrest⟩ := timeDutiesKept_cons.mp hduty
    obtain ⟨t, hstep, hport, hnow, hageT⟩ := step_answers h hp hage
    rw [← hageT, ← hnow] at hrest
    obtain ⟨u, hrun, hlen, hempty, hu⟩ := ih t hport (everyStepKeepsTheInvariant s t h hstep) hrest
    rw [List.length_cons, runReports_of_next hstep]
    exact ⟨u, hrun, congrArg (· + 1) hlen, hempty, hu⟩

/-- Settles O60: induction over the waiting commands; each step answers and keeps the invariants. -/
theorem everyDutifulRunCompletes : Obligations.EveryDutifulRunCompletes :=
  fun s h hduty => runReports_completes s.port s rfl h hduty

end Sys2Proof.Machine
end
